-- ==== Sys2Proof/Word.lean ====
section
/-! DEFINITION. The word types of the block (00_scope.md R10: bytes are 8-bit unsigned, bits are numbered from the
least significant, arithmetic on an N-bit register wraps modulo 2^N). -/

namespace Sys2Proof

/-- A byte on the bus or in the block buffer. -/
abbrev Byte := BitVec 8

/-- A 16-bit host register. -/
abbrev Half := BitVec 16

/-- A 32-bit command argument or sector index. -/
abbrev Long := BitVec 32

/-- A 6-bit command index (30_encoding.md R95). -/
abbrev Index := BitVec 6

end Sys2Proof
end

