-- ==== Sys2Proof/Config.lean ====
section
/-! DEFINITION. What an implementation fixes (00_scope.md R8, R9), the moves of the environment (00_scope.md R7), and the
values that the spec leaves free. -/

namespace Sys2Proof

/-- The two bus speeds (10_state.md R25: 0 = SLOW, 1 = FAST). -/
inductive Speed where
  | slow
  | fast
deriving DecidableEq, Repr, Inhabited

/-! ## Values the source itself fixes (00_scope.md R8) -/

namespace Param

/-- BLOCK_LEN: the payload of a data block. -/
def blockLen : Nat := 512

/-- RESP_POLL_MAX: the response poll makes at most this many exchanges. -/
def respPollMax : BitVec 4 := 10

/-- GO_IDLE_MAX_ATTEMPTS. -/
def goIdleMaxAttempts : BitVec 8 := 255

/-- INIT_DUMMY_BYTES: 80 dummy clocks. -/
def initDummyBytes : BitVec 4 := 10

/-- T_WRITE_READY in ticks. -/
def tWriteReady : Nat := 500

/-- FILLER, the byte sent when only receiving. -/
def filler : Byte := 0xFF

/-- START_TOKEN of a read block. -/
def startToken : Byte := 0xFE

/-- DATA_RESP_MASK. -/
def dataRespMask : Byte := 0x1F

/-- DATA_RESP_ACCEPT. -/
def dataRespAccept : Byte := 0x05

/-- CMD_START, the two fixed bits of a command byte. -/
def cmdStart : Byte := 0x40

/-- CRC_INERT. -/
def crcInert : Byte := 0x01

/-- APP_PREFIX_ARG. -/
def appPrefixArg : Long := 0

end Param

/-! ## The configuration -/

/-- The OPEN and the decided parameters of 00_scope.md R8, each with its stated default, so that a claim can quantify over
them (R9). A configuration stands in the state and no step changes it. `byteShift` is the base-2 logarithm of BYTE_SCALE.
`base` is OPEN with no default: DESIGN CHOICE 0 (log 5). -/
structure Config where
  tSelect : Nat := 500
  tRead : Nat := 200
  tPowerup : Nat := 1
  tcountWidth : Nat := 16
  dataTokenWrite : Byte := 0xFE
  stopToken : Byte := 0xFD
  crcGoIdle : Byte := 0x95
  crcIfCond : Byte := 0x87
  idxGoIdle : Index := 0
  idxIfCond : Index := 8
  idxStop : Index := 12
  idxReadSingle : Index := 17
  idxWriteSingle : Index := 24
  idxAppPrefix : Index := 55
  goIdleArg : Long := 0
  byteShift : Nat := 9
  base : Nat := 0
deriving DecidableEq, Repr

/-- Every parameter at the default of 00_scope.md R8. -/
def Config.default : Config := {}

/-- The greatest duration TCOUNT holds: 65535 at the stated width (40_transport_timer.md R113; log 28). -/
def Config.maxDuration (c : Config) : Nat := 2 ^ c.tcountWidth - 1

/-! ## The environment's moves -/

/-- One scheduled move of an agent (00_scope.md R7). A host access names the absolute address; its width is that of the
place it reaches, 16 bits for a register and 8 for a byte of BUF (20_memory.md R67; log 10). -/
inductive Event where
  /-- SEQ makes its next step. -/
  | seq
  /-- TICK makes its only step. -/
  | tick
  /-- HOST reads the place at `addr`. -/
  | hostRead (addr : Nat)
  /-- HOST writes `v` to the place at `addr`. -/
  | hostWrite (addr : Nat) (v : Half)
  /-- HOST reads STATUS and ERRCODE (`status()`). -/
  | statusRead
deriving DecidableEq, Repr, Inhabited

/-! ## Free values: constants with no body, so that no proof can see what they are -/

/-- The byte the CARD agent answers to the n-th exchange whose answer no one has set (40_transport_timer.md R110; log 2). -/
opaque Config.freeCardByte : Nat → Byte

/-- The byte a host read of BUF returns while BUSY = 1, for the n-th such read (20_memory.md R72; log 9). -/
opaque Config.freeHostByte : Nat → Byte

/-- The byte at an address of BUF right after power-on (10_state.md R46; log 6). -/
opaque Config.freeBufByte : Nat → Byte

/-- The n-th move of the environment that no one has set (00_scope.md R7; log 1). -/
opaque Config.freeEvent : Nat → Event

end Sys2Proof
end

