-- ==== Sys2Proof/Syntax.lean ====
section
/-! DEFINITION. The operations of the block: one constructor for each row of spec/opcode_table.json. -/

namespace Sys2Proof

/-- The block's operations (00_scope.md R3). Durations are natural numbers, so that one too long for TCOUNT can be written
down and refused (40_transport_timer.md R113). -/
inductive Instr where
  -- HOSTOP: a host write of CTRL (30_encoding.md R93)
  | hostReserved0
  | hostInitialize
  | hostReadSector
  | hostWriteSector
  | hostSendCommand
  | hostExchange
  | hostFinish
  | hostReserved7
  -- HOSTREAD
  | statusRead
  -- FRAME48: command frames (30_encoding.md R80)
  | cmdFrame (idx : Index) (arg : Long)
  | goIdle (arg : Long)
  | ifCond (arg : Long)
  | stopTransmission (arg : Long)
  | readSingleBlock (arg : Long)
  | writeSingleBlock (arg : Long)
  | appPrefix
  -- TOKEN8
  | startTokenRead
  | dataTokenWrite
  | stopToken
  -- RESP8
  | r1Valid (flags : BitVec 7)
  | r1Idle
  | r1Ready
  | dataRespAccept (high : BitVec 3)
  | cardReadyIdleByte
  -- INTERNAL: component operations
  | exchange (out : Byte)
  | select
  | deselect
  | arm (n : Nat)
  | tick
  | expired
  | setSpeed (speed : Speed)
  | waitReady (t : Nat)
  | selectAndWait (t : Nat)
  | release
  | sendCommand (idx : Index) (arg : Long) (app : Bool)
  | framer (idx : Index) (arg : Long) (app : Bool)
  | receiveBlock (t : Nat)
  | sendBlock (token : Byte)
  | sectorArg (sector : Long)
  | classify (r : Byte)
  | complete (res : Half)
  | initDummyBlock
  | powerUpWait
deriving DecidableEq, Repr

end Sys2Proof
end

