-- ==== Sys2Proof/WellFormed.lean ====
section
/-! DEFINITION. Which configurations and which operations are well formed. -/

namespace Sys2Proof

/-- A duration that TCOUNT holds (40_transport_timer.md R113). -/
def durationFits (c : Config) (t : Nat) : Bool := t ≤ c.maxDuration

/-- A configuration the model accepts: every duration the block uses fits in TCOUNT (40_transport_timer.md R113) and T_POWERUP
is at least one tick (00_scope.md R8). -/
def Config.wellFormed (c : Config) : Bool :=
  durationFits c c.tSelect && durationFits c c.tRead && durationFits c Param.tWriteReady && durationFits c c.tPowerup &&
    decide (1 ≤ c.tPowerup)

/-- The roles of 00_scope.md R8 have pairwise different indices and the two block tokens differ, as the defaults do. Needed
only to tell the rows of the table apart from their words. -/
def Config.rowsDistinct (c : Config) : Bool :=
  decide ([c.idxStop, c.idxGoIdle, c.idxIfCond, c.idxReadSingle, c.idxWriteSingle, c.idxAppPrefix].Nodup) &&
    c.stopToken != c.dataTokenWrite

/-- The index and argument of a frame that has a row of its own beside CMD_FRAME. -/
def Config.ownRow (c : Config) (idx : Index) (arg : Long) : Bool :=
  idx == c.idxStop || idx == c.idxGoIdle || idx == c.idxIfCond || idx == c.idxReadSingle ||
    idx == c.idxWriteSingle || (idx == c.idxAppPrefix && arg == Param.appPrefixArg)

/-- A well-formed operation: its durations fit in TCOUNT (40_transport_timer.md R113), and a CMD_FRAME is one that has no
row of its own, so that each frame is written in one way. Every other operand has every value (10_state.md R36, R37). -/
def Instr.wellFormed (c : Config) : Instr → Bool
  | .hostReserved0 => true
  | .hostInitialize => true
  | .hostReadSector => true
  | .hostWriteSector => true
  | .hostSendCommand => true
  | .hostExchange => true
  | .hostFinish => true
  | .hostReserved7 => true
  | .statusRead => true
  | .cmdFrame idx arg => !c.ownRow idx arg
  | .goIdle _ => true
  | .ifCond _ => true
  | .stopTransmission _ => true
  | .readSingleBlock _ => true
  | .writeSingleBlock _ => true
  | .appPrefix => true
  | .startTokenRead => true
  | .dataTokenWrite => true
  | .stopToken => true
  | .r1Valid _ => true
  | .r1Idle => true
  | .r1Ready => true
  | .dataRespAccept _ => true
  | .cardReadyIdleByte => true
  | .exchange _ => true
  | .select => true
  | .deselect => true
  | .arm n => durationFits c n
  | .tick => true
  | .expired => true
  | .setSpeed _ => true
  | .waitReady t => durationFits c t
  | .selectAndWait t => durationFits c t
  | .release => true
  | .sendCommand _ _ _ => true
  | .framer _ _ _ => true
  | .receiveBlock t => durationFits c t
  | .sendBlock _ => true
  | .sectorArg _ => true
  | .classify _ => true
  | .complete _ => true
  | .initDummyBlock => true
  | .powerUpWait => true

end Sys2Proof
end

