-- ==== Sys2Proof/Decode.lean ====
section
/-! DEFINITION. The encodings of 30_encoding.md: the words of each operation, the decoder from bytes and the encoder. The
decoder is told at which place the bytes stand (a host write of CTRL, a frame on the wire, a byte at one of the tests the
block applies), since the same byte means different things at different places (30_encoding.md R97). -/

namespace Sys2Proof

/-- Where the bytes to decode stand. -/
inductive Port where
  /-- The 16-bit CTRL value a host write carries, little-endian (20_memory.md R66). -/
  | ctrl
  /-- The offsets of the registers a host read covers, 16 bits each, little-endian: DESIGN CHOICE (log 27). -/
  | hostRead
  /-- The 6 bytes of a command frame, in the order they are sent (30_encoding.md R80). -/
  | frame
  /-- The token byte `send_block` sends (30_encoding.md R90, R91). -/
  | sentToken
  /-- The byte that ended the start-token poll (30_encoding.md R88). -/
  | tokenPoll
  /-- A byte of the ready poll (41_card_selector.md R130). -/
  | readyPoll
  /-- A byte of the response poll (42_command_framer.md R155). -/
  | responsePoll
  /-- The response of a go-idle attempt (44_initializer.md R215). -/
  | goIdleTest
  /-- A response tested for 0x00 (30_encoding.md R86). -/
  | readyTest
  /-- The data-response byte (30_encoding.md R89). -/
  | dataResponse
deriving DecidableEq, Repr

/-- Why bytes are no operation at a port. -/
inductive DecodeError where
  /-- Not as many bytes as the port's form has. -/
  | wrongLength
  /-- Bits 7:6 of a frame's first byte are not 01 (30_encoding.md R81). -/
  | notCommandByte
  /-- A frame whose last byte is not the CRC byte of its index, which the block never builds (30_encoding.md R83). -/
  | wrongCrc
  /-- A host read of other registers than STATUS and ERRCODE. -/
  | notStatusRead
  /-- A byte with no special meaning there: it takes the "other" branch of the rule that receives it (30_encoding.md R97). -/
  | noSpecialMeaning
deriving DecidableEq, Repr

/-! ## The fields of a frame -/

/-- The command byte 0x40 | index (30_encoding.md R81). -/
def commandByte (idx : Index) : Byte := Param.cmdStart ||| idx.setWidth 8

/-- The CRC byte of an index (30_encoding.md R83). No CRC is computed. -/
def crcByte (c : Config) (idx : Index) : Byte :=
  if idx = c.idxGoIdle then c.crcGoIdle else if idx = c.idxIfCond then c.crcIfCond else Param.crcInert

/-- The four bytes of an argument, most significant first (20_memory.md R63). -/
def argBytes (arg : Long) : List Byte :=
  [arg.extractLsb' 24 8, arg.extractLsb' 16 8, arg.extractLsb' 8 8, arg.extractLsb' 0 8]

/-- The six bytes of a command frame in the order they are sent (30_encoding.md R80, R82). -/
def frameBytes (c : Config) (idx : Index) (arg : Long) : List Byte :=
  commandByte idx :: argBytes arg ++ [crcByte c idx]

/-- The row of the table that a frame with this index and argument belongs to. -/
def frameOf (c : Config) (idx : Index) (arg : Long) : Instr :=
  if idx = c.idxStop then .stopTransmission arg
  else if idx = c.idxGoIdle then .goIdle arg
  else if idx = c.idxIfCond then .ifCond arg
  else if idx = c.idxReadSingle then .readSingleBlock arg
  else if idx = c.idxWriteSingle then .writeSingleBlock arg
  else if idx = c.idxAppPrefix ∧ arg = Param.appPrefixArg then .appPrefix
  else .cmdFrame idx arg

/-! ## The tests on a received byte -/

/-- An R1 response is valid exactly when bit 7 is 0 (30_encoding.md R86). -/
def r1IsValid (b : Byte) : Bool := !b.getLsbD 7

/-- A data response accepts the block exactly when its low five bits are 00101 (30_encoding.md R89). -/
def isAccepted (b : Byte) : Bool := b &&& Param.dataRespMask == Param.dataRespAccept

/-- The byte of a valid R1 with these flags. -/
def r1Byte (flags : BitVec 7) : Byte := 0#1 ++ flags

/-- The byte of an accepting data response with these high bits. -/
def acceptByte (high : BitVec 3) : Byte := high ++ 0b00101#5

/-! ## The decoder -/

/-- The host operation a CTRL value selects: bits 2:0 alone (30_encoding.md R93, R94). -/
def decodeCtrl (v : Half) : Instr :=
  match (v.extractLsb' 0 3).toNat with
  | 0 => .hostReserved0
  | 1 => .hostInitialize
  | 2 => .hostReadSector
  | 3 => .hostWriteSector
  | 4 => .hostSendCommand
  | 5 => .hostExchange
  | 6 => .hostFinish
  | _ => .hostReserved7

/-- A command frame from its six bytes (30_encoding.md R80 to R83). -/
def decodeFrame (c : Config) : List Byte → Except DecodeError Instr
  | [b0, b1, b2, b3, b4, b5] =>
    if b0.extractLsb' 6 2 = 0b01#2 then
      let idx : Index := b0.extractLsb' 0 6
      if b5 = crcByte c idx then .ok (frameOf c idx (b1 ++ b2 ++ b3 ++ b4)) else .error .wrongCrc
    else .error .notCommandByte
  | _ => .error .wrongLength

/-- One byte at a port that takes one byte. -/
def decodeByte (c : Config) (p : Port) (b : Byte) : Except DecodeError Instr :=
  match p with
  | .sentToken =>
    if b = c.stopToken then .ok .stopToken
    else if b = c.dataTokenWrite then .ok .dataTokenWrite else .error .noSpecialMeaning
  | .tokenPoll => if b = Param.startToken then .ok .startTokenRead else .error .noSpecialMeaning
  | .readyPoll => if b = 0xFF#8 then .ok .cardReadyIdleByte else .error .noSpecialMeaning
  | .responsePoll => if r1IsValid b then .ok (.r1Valid (b.extractLsb' 0 7)) else .error .noSpecialMeaning
  | .goIdleTest => if b = 0x01#8 then .ok .r1Idle else .error .noSpecialMeaning
  | .readyTest => if b = 0x00#8 then .ok .r1Ready else .error .noSpecialMeaning
  | .dataResponse =>
    if isAccepted b then .ok (.dataRespAccept (b.extractLsb' 5 3)) else .error .noSpecialMeaning
  | .ctrl => .error .wrongLength
  | .hostRead => .error .wrongLength
  | .frame => .error .wrongLength

/-- The decoder, total on any bytes at any port. -/
def decode (c : Config) (p : Port) (bytes : List Byte) : Except DecodeError Instr :=
  match p, bytes with
  | .ctrl, [lo, hi] => .ok (decodeCtrl (hi ++ lo))
  | .hostRead, [b0, b1, b2, b3] =>
    if b1 ++ b0 = 0x002#16 ∧ b3 ++ b2 = 0x016#16 then .ok .statusRead else .error .notStatusRead
  | .frame, bs => decodeFrame c bs
  | q, [b] => decodeByte c q b
  | _, _ => .error .wrongLength

/-! ## The encoder -/

/-- The op code of a host operation in CTRL (30_encoding.md R93): little-endian bytes. -/
def ctrlBytes (op : Byte) : List Byte := [op, 0]

/-- The place and the bytes of an operation that has words; an INTERNAL row has none. The spec gives the status read no bytes
(30_encoding.md R93: it is no op code): DESIGN CHOICE, the offsets of STATUS and ERRCODE as two little-endian 16-bit values
(log 27). -/
def encode (c : Config) : Instr → Option (Port × List Byte)
  | .hostReserved0 => some (.ctrl, ctrlBytes 0)
  | .hostInitialize => some (.ctrl, ctrlBytes 1)
  | .hostReadSector => some (.ctrl, ctrlBytes 2)
  | .hostWriteSector => some (.ctrl, ctrlBytes 3)
  | .hostSendCommand => some (.ctrl, ctrlBytes 4)
  | .hostExchange => some (.ctrl, ctrlBytes 5)
  | .hostFinish => some (.ctrl, ctrlBytes 6)
  | .hostReserved7 => some (.ctrl, ctrlBytes 7)
  | .statusRead => some (.hostRead, [0x02, 0x00, 0x16, 0x00])
  | .cmdFrame idx arg => some (.frame, frameBytes c idx arg)
  | .goIdle arg => some (.frame, frameBytes c c.idxGoIdle arg)
  | .ifCond arg => some (.frame, frameBytes c c.idxIfCond arg)
  | .stopTransmission arg => some (.frame, frameBytes c c.idxStop arg)
  | .readSingleBlock arg => some (.frame, frameBytes c c.idxReadSingle arg)
  | .writeSingleBlock arg => some (.frame, frameBytes c c.idxWriteSingle arg)
  | .appPrefix => some (.frame, frameBytes c c.idxAppPrefix Param.appPrefixArg)
  | .startTokenRead => some (.tokenPoll, [Param.startToken])
  | .dataTokenWrite => some (.sentToken, [c.dataTokenWrite])
  | .stopToken => some (.sentToken, [c.stopToken])
  | .r1Valid flags => some (.responsePoll, [r1Byte flags])
  | .r1Idle => some (.goIdleTest, [0x01])
  | .r1Ready => some (.readyTest, [0x00])
  | .dataRespAccept high => some (.dataResponse, [acceptByte high])
  | .cardReadyIdleByte => some (.readyPoll, [0xFF])
  | .exchange _ => none
  | .select => none
  | .deselect => none
  | .arm _ => none
  | .tick => none
  | .expired => none
  | .setSpeed _ => none
  | .waitReady _ => none
  | .selectAndWait _ => none
  | .release => none
  | .sendCommand _ _ _ => none
  | .framer _ _ _ => none
  | .receiveBlock _ => none
  | .sendBlock _ => none
  | .sectorArg _ => none
  | .classify _ => none
  | .complete _ => none
  | .initDummyBlock => none
  | .powerUpWait => none

/-! ## The words of the table, at the default configuration -/

/-- Whether a table word of this width is a CTRL value. A HOSTOP row has a 16-bit value of which the table fixes bits 2:0
alone, so it may come as one byte, the bits above it 0; a byte below 8 is read so (log 16). -/
def isCtrlWord (nbits w : Nat) : Bool := nbits == 16 || (nbits == 8 && decide (w < 8))

/-- A table byte that is no CTRL value: the token and response rows, the most specific mask first (log 16). -/
def decodeWireByte (b : Byte) : Except DecodeError Instr :=
  match decode .default .tokenPoll [b] with
  | .ok i => .ok i
  | .error _ =>
    match decode .default .sentToken [b] with
    | .ok i => .ok i
    | .error _ =>
      match decode .default .readyPoll [b] with
      | .ok i => .ok i
      | .error _ =>
        match decode .default .dataResponse [b] with
        | .ok i => .ok i
        | .error _ => decode .default .responsePoll [b]

/-- The six bytes of a 48-bit table word: byte 0 is bits 47:40 (30_encoding.md R80). -/
def wordBytes (w : BitVec 48) : List Byte :=
  [w.extractLsb' 40 8, w.extractLsb' 32 8, w.extractLsb' 24 8, w.extractLsb' 16 8, w.extractLsb' 8 8, w.extractLsb' 0 8]

/-- What the decoder reads from a table word, or why it refuses it. -/
def decodeWord (nbits w : Nat) : Except DecodeError Instr :=
  if isCtrlWord nbits w then decode .default .ctrl [BitVec.ofNat 8 w, BitVec.ofNat 8 (w / 256)]
  else if nbits == 8 then decodeWireByte (BitVec.ofNat 8 w)
  else if nbits == 48 then decode .default .frame (wordBytes (BitVec.ofNat 48 w))
  else .error .wrongLength

end Sys2Proof

/-- The operation the decoder reads from a word of spec/opcode_table.json, its bits numbered as the table numbers them. -/
def Sys2Proof.decodeTableWord (nbits w : Nat) : Option Sys2Proof.Instr :=
  match Sys2Proof.decodeWord nbits w with
  | .ok i => some i
  | .error _ => none
end

