-- ==== Sys2Proof/Machine/State.lean ====
section
/-! DEFINITION. The state of the block, the reasons a step can stop, and the state right after reset. -/

namespace Sys2Proof.Machine

/-- CARDSTATE together with ERRCODE (10_state.md R20): the code belongs to the Error state alone (log 19). -/
inductive CardState where
  | uninitialized
  | idle
  | ready
  | error (code : Half)
deriving DecidableEq, Repr

/-- One event on the block's outside: a bus event or a timer event, as the wire traces of 00_scope.md R13 write them. -/
inductive BusEvent where
  /-- One full-duplex exchange: the byte sent, the byte received. -/
  | exch (out inp : Byte)
  /-- `SetCS(ASSERTED)`. -/
  | sel
  /-- `SetCS(DEASSERTED)`. -/
  | desel
  /-- `SetSpeed`. -/
  | speed (s : Speed)
  /-- `Arm(n)`. -/
  | arm (n : Nat)
  /-- One step of TICK. -/
  | tick
  /-- A read of `Expired()` that returned `b`. -/
  | expired (b : Bool)
deriving DecidableEq, Repr

/-- A point of the pseudocode of 40_transport_timer.md to 45_host_operations.md. SEQPOS is a list of them, the next one
first (10_state.md R30; log 4). A point that the docstring calls a TEST decodes the byte it names. -/
inductive Point where
  /-- The operation `i` is called here. -/
  | op (i : Instr)
  /-- The primitive `SetCS` (00_scope.md R11). -/
  | setCS (asserted : Bool)
  /-- A word of spec/opcode_table.json placed here from outside (log 16). -/
  | word (nbits w : Nat)
  /-- TEST in `wait_ready`: the byte just received, against 0xFF (41_card_selector.md R130). -/
  | readyPoll
  /-- `wait_ready` after its read of `Expired()`. -/
  | readyExpired
  /-- `select_and_wait` after `wait_ready` (41_card_selector.md R131). -/
  | selected
  /-- `return ok`. -/
  | giveOk (ok : Bool)
  /-- `send_command` after the prefix command (42_command_framer.md R151). -/
  | prefixed (idx : Index) (arg : Long)
  /-- `send_command` after `select_and_wait` (42_command_framer.md R152). -/
  | commandSelected (idx : Index) (arg : Long)
  /-- The start of the response poll (42_command_framer.md R155). -/
  | pollStart
  /-- TEST in the response poll: the byte just received, for bit 7 = 0 (42_command_framer.md R155). -/
  | responsePoll
  /-- `framer` after `send_command`: LASTR1 (42_command_framer.md R156). -/
  | latchR1
  /-- TEST in the start-token poll: the byte just received, against 0xFE (43_block_transfer.md R181). -/
  | tokenPoll
  /-- The start-token poll after its read of `Expired()`. -/
  | tokenExpired
  /-- The head of the receive loop over BIDX (43_block_transfer.md R182). -/
  | payloadIn
  /-- `MemWrite(BIDX, 1, …)` of the byte just received. -/
  | storeByte
  /-- `receive_block` after its trailer (43_block_transfer.md R183). -/
  | blockReceived
  /-- `send_block` after its ready-wait (43_block_transfer.md R186). -/
  | blockReady (token : Byte)
  /-- `send_block` after the token of a real data block (43_block_transfer.md R187). -/
  | payloadStart
  /-- The head of the send loop over BIDX (43_block_transfer.md R188). -/
  | payloadOut
  /-- The end of one pass of the send loop. -/
  | payloadNext
  /-- TEST of the data-response byte (43_block_transfer.md R190). -/
  | dataResponse
  /-- `send_block` after the stop token (43_block_transfer.md R191). -/
  | tokenSent
  /-- The dummy block after its chip-select change (44_initializer.md R214). -/
  | dummyStart
  /-- The dummy block after one dummy exchange. -/
  | dummyNext
  /-- The power-up wait after a read of `Expired()` (44_initializer.md R213). -/
  | powerTest
  /-- INITIALIZE after the power-up wait (44_initializer.md R215). -/
  | firstAttempt
  /-- TEST of a go-idle response against 0x01 (44_initializer.md R215). -/
  | goIdleTest
  /-- READ_SECTOR after `sector_arg` (45_host_operations.md R243). -/
  | readArg
  /-- TEST of READ_SECTOR's response against 0x00. -/
  | readCommand
  /-- READ_SECTOR after `receive_block`. -/
  | readReceived
  /-- READ_SECTOR after `release`, with what `receive_block` returned. -/
  | readDone (ok : Bool) (tok : Byte)
  /-- WRITE_SECTOR after `sector_arg` (45_host_operations.md R245). -/
  | writeArg
  /-- TEST of WRITE_SECTOR's response against 0x00. -/
  | writeCommand
  /-- WRITE_SECTOR after `send_block`. -/
  | writeSent
  /-- WRITE_SECTOR after `release`, with what `send_block` returned. -/
  | writeDone (ok : Bool) (resp : Byte)
  /-- `raise OpError` of the code `classify` returned. -/
  | raiseCode
  /-- RESP and the completion of SEND_COMMAND and EXCHANGE (45_host_operations.md R246, R247). -/
  | respond
  /-- TEST of LASTR1 against 0x00 in FINISH with OK = 1 (45_host_operations.md R248). -/
  | finishVerdict
deriving DecidableEq, Repr

/-- The host-interface registers that hold what was written or returned (10_state.md R33). -/
structure Window where
  sectorLo : Half
  sectorHi : Half
  cmd : Half
  argLo : Half
  argHi : Half
  xdata : Half
  fin : Half
  resp : Half
  result : Half
deriving DecidableEq, Repr

/-- The operands latched at the start of a host operation (10_state.md R43; 45_host_operations.md R240). -/
structure Operands where
  sector : Long
  index : Index
  app : Bool
  arg : Long
  out : Byte
  ok : Bool
  ba : Bool
  detail : Byte
deriving DecidableEq, Repr

/-- The values the pseudocode has returned so far, which select the next primitive (10_state.md R30). -/
structure Returned where
  /-- The last byte received or returned. -/
  byte : Byte
  /-- The last Boolean returned. -/
  ok : Bool
  /-- What `sector_arg` returned. -/
  arg : Long
  /-- What `classify` returned. -/
  code : Half
deriving DecidableEq, Repr

/-- The environment: the moves and the card's answers that are set, and the counters that index the free values once
those lists are empty (logs 1, 2, 9). The model's own. -/
structure Environment where
  inbox : List Event
  turns : Nat
  card : List Byte
  draws : Nat
  hostDraws : Nat
deriving DecidableEq, Repr

/-- The bytes of BUF written since reset: addresses strictly rising. -/
abbrev Memory := List Host.Cell

/-- Why the machine stops with a fault. -/
inductive Fault where
  /-- Raised by `storeByte` when BIDX names no byte of BUF (20_memory.md R60: addresses 0 to 511). Safe: no state that a
  run from reset reaches raises it (log 13). -/
  | bufOutOfRange (addr : Nat)
  /-- Raised by a host access to an address outside the block's window (10_state.md R33, 20_memory.md R62). Safe: the spec
  gives the block no such place (log 11). -/
  | outsideWindow (addr : Nat)
deriving DecidableEq, Repr

/-- Why the model gives no meaning. -/
inductive Refusal where
  /-- Raised by `exec` for an operation with no meaning yet. Safe. -/
  | notModelled (mnemonic : String)
  /-- Raised by `arm` for a duration that TCOUNT does not hold (40_transport_timer.md R113). Safe (log 12). -/
  | durationTooLong (n : Nat)
  /-- Raised by `step` for an ill-formed configuration (40_transport_timer.md R113: a model refuses it). Safe (log 12). -/
  | illFormedConfig
  /-- Raised by a placed word that no row of the table matches. Safe (log 16). -/
  | undecodable (e : DecodeError)
deriving DecidableEq, Repr

/-- The state of the block. INVENTORY.md lists the rule and the reset value of each piece. TCOUNT is a count below
2 ^ TCOUNT_WIDTH (10_state.md R22; log 28). -/
structure State where
  cfg : Config
  cardState : CardState
  tcount : Nat
  csa : Bool
  speed : Speed
  byteAddr : Bool
  selto : Bool
  lastR1 : Byte
  attempt : BitVec 8
  npoll : BitVec 4
  bidx : BitVec 10
  ndummy : BitVec 4
  seqpos : List Point
  ret : Returned
  busy : Bool
  ovr : Bool
  win : Window
  lat : Operands
  buf : Memory
  env : Environment
  /-- The events so far, the latest first (00_scope.md R13). The model's own (log 18). -/
  wire : List BusEvent
  /-- The words the last host read returned. The model's own (log 18). -/
  hostData : List Half
deriving DecidableEq, Repr

/-- The outcome of an operation. -/
abbrev Result := Host.Outcome State Fault Refusal

/-- Power-on reset (10_state.md R46; 70_reset_and_hazards.md R310). R46 leaves the loop counters unspecified: DESIGN CHOICE
0 (log 7); the latched operands and the returned values: DESIGN CHOICE 0 (log 8). -/
def State.reset : State where
  cfg := .default
  cardState := .uninitialized
  tcount := 0
  csa := false
  speed := .slow
  byteAddr := false
  selto := false
  lastR1 := 0xFF
  attempt := 0
  npoll := 0
  bidx := 0
  ndummy := 0
  seqpos := []
  ret := { byte := 0, ok := false, arg := 0, code := 0 }
  busy := false
  ovr := false
  win :=
    { sectorLo := 0, sectorHi := 0, cmd := 0, argLo := 0, argHi := 0, xdata := 0, fin := 0, resp := 0x00FF, result := 0 }
  lat := { sector := 0, index := 0, app := false, arg := 0, out := 0, ok := false, ba := false, detail := 0 }
  buf := []
  env := { inbox := [], turns := 0, card := [], draws := 0, hostDraws := 0 }
  wire := []
  hostData := []

end Sys2Proof.Machine
end

