-- ==== Sys2Proof/Machine/Ops.lean ====
section
/-! DEFINITION. The shared operations over BUF, the bus, the timer, SEQPOS and the completion of a host operation. -/

namespace Sys2Proof.Machine

/-! ## BUF -/

/-- The byte written last at `a`, if any was written since reset. -/
def Memory.get? : Memory → Nat → Option Byte
  | [], _ => none
  | (b, v) :: m, a => if b = a then some v else Memory.get? m a

/-- Write one byte, keeping the addresses strictly rising. -/
def Memory.put : Memory → Nat → Byte → Memory
  | [], a, v => [(a, v)]
  | (b, w) :: m, a, v =>
    if a < b then (a, v) :: (b, w) :: m else if a = b then (a, v) :: m else (b, w) :: Memory.put m a v

/-- Addresses strictly rising from `lo`, each one an address of BUF. -/
def Memory.wfFrom : Nat → Memory → Bool
  | _, [] => true
  | lo, (b, _) :: m => decide (lo ≤ b) && decide (b < Param.blockLen) && Memory.wfFrom (b + 1) m

/-- The canonical form of BUF. An unlisted address reads as no written byte, so no entry can equal that (log 6). -/
def Memory.wf (m : Memory) : Bool := Memory.wfFrom 0 m

/-- `MemRead(a, 1)` (20_memory.md R60): the byte written last, or the one BUF held at power-on (log 6). -/
def State.bufRead (s : State) (a : Nat) : Byte := (Memory.get? s.buf a).getD (Config.freeBufByte a)

/-- `MemWrite(a, 1, v)` (20_memory.md R60). -/
def State.bufWrite (s : State) (a : Nat) (v : Byte) : State := { s with buf := Memory.put s.buf a v }

/-! ## The bus and the timer: the primitives of 00_scope.md R11 -/

/-- The byte the card answers to the next exchange (40_transport_timer.md R110; log 2). -/
def Environment.cardByte (e : Environment) : Byte :=
  match e.card with
  | b :: _ => b
  | [] => Config.freeCardByte e.draws

/-- The environment after that answer is used up. -/
def Environment.afterAnswer (e : Environment) : Environment :=
  match e.card with
  | _ :: bs => { e with card := bs }
  | [] => { e with draws := e.draws + 1 }

/-- `Exchange(o)`: the byte received is the value returned. -/
def State.exchangeByte (s : State) (o : Byte) : State :=
  { s with
    ret := { s.ret with byte := s.env.cardByte }
    env := s.env.afterAnswer
    wire := .exch o s.env.cardByte :: s.wire }

/-- `SetCS` (10_state.md R24). -/
def State.driveCS (s : State) (asserted : Bool) : State :=
  { s with csa := asserted, wire := (if asserted then .sel else .desel) :: s.wire }

/-- `SetSpeed` (40_transport_timer.md R118). -/
def State.driveSpeed (s : State) (speed : Speed) : State :=
  { s with speed := speed, wire := .speed speed :: s.wire }

/-- `Arm` of a duration that fits (40_transport_timer.md R113). -/
def State.armTimer (s : State) (n : Nat) : State := { s with tcount := n, wire := .arm n :: s.wire }

/-- The step of TICK (40_transport_timer.md R114): the decrement stops at zero, as that of a natural number does. -/
def State.tickTimer (s : State) : State :=
  { s with tcount := s.tcount - 1, wire := .tick :: s.wire }

/-- `Expired()` (40_transport_timer.md R115): the Boolean read is the value returned. -/
def State.readExpired (s : State) : State :=
  { s with ret := { s.ret with ok := s.tcount == 0 }, wire := .expired (s.tcount == 0) :: s.wire }

/-! ## SEQPOS -/

/-- Go on at `ps`, and after them where SEQPOS stood. -/
def State.push (s : State) (ps : List Point) : State := { s with seqpos := ps ++ s.seqpos }

/-- SEQPOS without the test point `p` when it stands there: the test has been decided. -/
def State.leaving (s : State) (p : Point) : List Point :=
  match s.seqpos with
  | q :: k => if q = p then k else q :: k
  | [] => []

/-- Return a Boolean. -/
def State.giveOk (s : State) (ok : Bool) : State := { s with ret := { s.ret with ok := ok } }

/-- Return a byte. -/
def State.giveByte (s : State) (b : Byte) : State := { s with ret := { s.ret with byte := b } }

/-! ## Completion and errors -/

/-- `-code` in 16-bit two's complement (00_scope.md R12). -/
def negCode (code : Half) : Half := -code

/-- `complete(res)` (60_exceptions.md R282): RESULT, then BUSY, then SEQPOS = IDLE. -/
def State.completeWith (s : State) (res : Half) : State :=
  { s with win := { s.win with result := res }, busy := false, seqpos := [] }

/-- `raise OpError(code)` (60_exceptions.md R283): the rest of the operation's pseudocode is dropped and the operation ends
with `complete(-code)`. Nothing else changes. -/
def State.raiseOpError (s : State) (code : Half) : State := { s with seqpos := [.op (.complete (negCode code))] }

end Sys2Proof.Machine
end

