-- ==== Sys2Proof/Machine/Operands.lean ====
section
/-! DEFINITION. The operands of the host operations: the fields of the operand registers, the latch, the sector argument. -/

namespace Sys2Proof.Machine

/-! ## The writable bits of the operand registers -/

/-- CMD bits 15:7 are reserved (10_state.md R37). -/
def cmdMask : Half := 0x007F

/-- XDATA bits 15:8 are reserved (10_state.md R38). -/
def xdataMask : Half := 0x00FF

/-- FIN bits 7:2 are reserved (10_state.md R39). -/
def finMask : Half := 0xFF03

/-- What the operand registers hold, as the sequencer latches it (10_state.md R36 to R39, R43). -/
def Window.operands (w : Window) : Operands where
  sector := w.sectorHi ++ w.sectorLo
  index := w.cmd.extractLsb' 0 6
  app := w.cmd.getLsbD 6
  arg := w.argHi ++ w.argLo
  out := w.xdata.extractLsb' 0 8
  ok := w.fin.getLsbD 0
  ba := w.fin.getLsbD 1
  detail := w.fin.extractLsb' 8 8

/-- The start of a host operation (45_host_operations.md R240): BUSY and the latch. -/
def State.issue (s : State) : State := { s with busy := true, lat := s.win.operands }

/-- A host write of CTRL (10_state.md R34): while BUSY = 0 the operation starts and `body` is its dispatch; while BUSY = 1 it
is the overrun of 45_host_operations.md R241. -/
def State.hostOp (s : State) (body : State → State) : State :=
  if s.busy then { s with ovr := true } else body s.issue

/-- SEQPOS at the start of a host operation's pseudocode. -/
def State.startAt (s : State) (ps : List Point) : State := { s with seqpos := ps }

/-- The first sector index that byte addressing cannot express (45_host_operations.md R244: 2^23 at BYTE_SCALE 512). -/
def sectorLimit (c : Config) : Nat := 2 ^ (32 - c.byteShift)

/-- The argument of a sector in byte addressing (45_host_operations.md R244). -/
def byteArg (c : Config) (sector : Long) : Long := sector <<< c.byteShift

end Sys2Proof.Machine
end

