-- ==== Sys2Proof/Machine/Flags.lean ====
section
/-! DEFINITION. The status views and the error codes. -/

namespace Sys2Proof.Machine

/-- The 2-bit encoding of CARDSTATE (10_state.md R20). -/
def CardState.code : CardState → BitVec 2
  | .uninitialized => 0
  | .idle => 1
  | .ready => 2
  | .error _ => 3

/-- ERRCODE (10_state.md R20). -/
def State.errcode (s : State) : Half :=
  match s.cardState with
  | .error code => code
  | .uninitialized => 0
  | .idle => 0
  | .ready => 0

/-- SPEED as a bit (10_state.md R25). -/
def speedBit : Speed → Bool
  | .slow => false
  | .fast => true

/-- STATUS (10_state.md R35). -/
def State.statusWord (s : State) : Half :=
  0#8 ++ BitVec.ofBool s.selto ++ s.cardState.code ++ BitVec.ofBool s.byteAddr ++ BitVec.ofBool (speedBit s.speed) ++
    BitVec.ofBool s.csa ++ BitVec.ofBool s.ovr ++ BitVec.ofBool s.busy

/-- The optional output DONE (60_exceptions.md R287). -/
def State.done (s : State) : Bool := !s.busy

/-- An error code `class << 8 | detail` (60_exceptions.md R281). -/
def errorCode (cls detail : Byte) : Half := cls ++ detail

/-- CARDSTATE as a detail byte. -/
def CardState.detail (c : CardState) : Byte := c.code.setWidth 8

def initNoResponse (r : Byte) : Half := errorCode 0x01 r
def selectTimeout : Half := errorCode 0x02 0x00
def readyWaitTimeout : Half := errorCode 0x02 0x01
def cmdTimeout (r : Byte) : Half := errorCode 0x03 r
def r1Error (r : Byte) : Half := errorCode 0x04 r
def dataTimeout (tok : Byte) : Half := errorCode 0x05 tok
def writeReject (resp : Byte) : Half := errorCode 0x06 resp
def notReady (c : CardState) : Half := errorCode 0x07 c.detail
def negotiationFailed (detail : Byte) : Half := errorCode 0x08 detail
def rangeError : Half := errorCode 0x09 0x00
def badOp (op : Byte) : Half := errorCode 0x0A op
def badState (c : CardState) : Half := errorCode 0x0B c.detail
def readyRefused (r : Byte) : Half := errorCode 0x0C r

/-- `classify(r)` (45_host_operations.md R253). -/
def State.classifyCode (s : State) (r : Byte) : Half :=
  if s.selto then selectTimeout else if r.getLsbD 7 then cmdTimeout r else r1Error r

end Sys2Proof.Machine
end

