-- ==== Sys2Proof/Machine/Transport.lean ====
section
/-! DEFINITION. Transport and Timeout Clock (40_transport_timer.md). -/

namespace Sys2Proof.Machine

/-- `exchange(o)` (R110). -/
def execExchange (out : Byte) (s : State) : Result := .next (s.exchangeByte out)

/-- The call of `Exchange(0xFF)`. -/
def fillerExchange : Point := .op (.exchange Param.filler)

/-- `select()` (R111). -/
def execSelect (s : State) : Result := .next (s.push [.setCS true, fillerExchange])

/-- `deselect()` (R112). -/
def execDeselect (s : State) : Result := .next (s.push [.setCS false, fillerExchange])

/-- `arm(n)` (R113): a duration that TCOUNT does not hold is refused (log 12). -/
def execArm (n : Nat) (s : State) : Result :=
  if durationFits s.cfg n then .next (s.armTimer n) else .refused (.durationTooLong n)

/-- `tick` (R114). -/
def execTick (s : State) : Result := .next s.tickTimer

/-- `expired()` (R115). -/
def execExpired (s : State) : Result := .next s.readExpired

/-- `SetSpeed(s)` (R118). -/
def execSetSpeed (speed : Speed) (s : State) : Result := .next (s.driveSpeed speed)

/-- The primitive `SetCS` (00_scope.md R11). -/
def pointSetCS (asserted : Bool) (s : State) : Result := .next (s.driveCS asserted)

end Sys2Proof.Machine
end

