-- ==== Sys2Proof/Machine/Selector.lean ====
section
/-! DEFINITION. Card Selector (41_card_selector.md). A point's meaning is given the state whose SEQPOS is what follows it. -/

namespace Sys2Proof.Machine

/-- `wait_ready(t)` (R130): `Arm`, then the poll. -/
def execWaitReady (t : Nat) (s : State) : Result := .next (s.push [.op (.arm t), fillerExchange, .readyPoll])

/-- 0xFF in the ready poll (R130): the card is ready, and `wait_ready` returns true. -/
def execCardReadyIdleByte (s : State) : Result :=
  .next (({ s with seqpos := s.leaving .readyPoll }.giveByte 0xFF).giveOk true)

/-- Any other byte in the ready poll (R130): the timer is read. -/
def otherReadyPoll (s : State) : Result := .next (s.push [.op .expired, .readyExpired])

/-- `if Expired() then return false`, else the poll goes on (R130). -/
def pointReadyExpired (s : State) : Result :=
  .next (if s.ret.ok then s.giveOk false else s.push [fillerExchange, .readyPoll])

/-- `select_and_wait(t)` (R131). -/
def execSelectAndWait (t : Nat) (s : State) : Result :=
  .next (s.push [.op .select, .op (.waitReady t), .selected])

/-- After `wait_ready` (R131): ready, or deselect and return false. -/
def pointSelected (s : State) : Result :=
  .next (if s.ret.ok then s.giveOk true else s.push [.op .deselect, .giveOk false])

/-- `return ok`. -/
def pointGiveOk (ok : Bool) (s : State) : Result := .next (s.giveOk ok)

/-- `release()` (R132): exactly one `deselect()`. -/
def execRelease (s : State) : Result := .next (s.push [.op .deselect])

end Sys2Proof.Machine
end

