-- ==== Sys2Proof/Machine/Framer.lean ====
section
/-! DEFINITION. Command Framer (42_command_framer.md) and the frames of 30_encoding.md. -/

namespace Sys2Proof.Machine

/-! ## Frames -/

/-- Send the six bytes of a frame as six consecutive exchanges (30_encoding.md R80; R153). -/
def State.sendFrame (s : State) (idx : Index) (arg : Long) : State :=
  s.push ((frameBytes s.cfg idx arg).map fun b => .op (.exchange b))

/-- CMD_FRAME (30_encoding.md R80). -/
def execCmdFrame (idx : Index) (arg : Long) (s : State) : Result := .next (s.sendFrame idx arg)

/-- GO_IDLE (44_initializer.md R215). -/
def execGoIdle (arg : Long) (s : State) : Result := .next (s.sendFrame s.cfg.idxGoIdle arg)

/-- IF_COND (30_encoding.md R83). -/
def execIfCond (arg : Long) (s : State) : Result := .next (s.sendFrame s.cfg.idxIfCond arg)

/-- STOP_TRANSMISSION (R154): the frame, then one filler exchange whose byte is discarded. -/
def execStopTransmission (arg : Long) (s : State) : Result :=
  .next ((s.push [fillerExchange]).sendFrame s.cfg.idxStop arg)

/-- READ_SINGLE_BLOCK (45_host_operations.md R243). -/
def execReadSingleBlock (arg : Long) (s : State) : Result := .next (s.sendFrame s.cfg.idxReadSingle arg)

/-- WRITE_SINGLE_BLOCK (45_host_operations.md R245). -/
def execWriteSingleBlock (arg : Long) (s : State) : Result := .next (s.sendFrame s.cfg.idxWriteSingle arg)

/-- APP_PREFIX (R151). -/
def execAppPrefix (s : State) : Result := .next (s.sendFrame s.cfg.idxAppPrefix Param.appPrefixArg)

/-! ## send_command -/

/-- Steps 3 to 5 (R153 to R155): the frame, with the filler of step 4 in the row of the stop frame, and the response poll. -/
def framePoints (c : Config) (idx : Index) (arg : Long) : List Point := [.op (frameOf c idx arg), .pollStart]

/-- Steps 2 to 5 (R152 to R155). -/
def commandPoints (c : Config) (idx : Index) (arg : Long) : List Point :=
  if idx = c.idxStop then framePoints c idx arg
  else [.op .deselect, .op (.selectAndWait c.tSelect), .commandSelected idx arg]

/-- `send_command(idx, arg, app)` (R150): SELTO <- 0, then the prefix of an application command. -/
def execSendCommand (idx : Index) (arg : Long) (app : Bool) (s : State) : Result :=
  .next ({ s with selto := false }.push
    (if app then [.op (.sendCommand s.cfg.idxAppPrefix Param.appPrefixArg false), .prefixed idx arg]
     else commandPoints s.cfg idx arg))

/-- After the prefix (R151): a response above 1 is returned at once. -/
def pointPrefixed (idx : Index) (arg : Long) (s : State) : Result :=
  .next (if 1#8 < s.ret.byte then s else s.push (commandPoints s.cfg idx arg))

/-- After the selection (R152): a timeout sets SELTO and returns 0xFF. -/
def pointCommandSelected (idx : Index) (arg : Long) (s : State) : Result :=
  .next (if s.ret.ok then s.push (framePoints s.cfg idx arg) else { s with selto := true }.giveByte 0xFF)

/-- The response poll starts (R155). -/
def pointPollStart (s : State) : Result :=
  .next ({ s with npoll := Param.respPollMax }.push [fillerExchange, .responsePoll])

/-- A byte with bit 7 clear in the response poll (R155): the poll ends and returns it. -/
def execR1Valid (flags : BitVec 7) (s : State) : Result :=
  .next ({ s with npoll := s.npoll - 1, seqpos := s.leaving .responsePoll }.giveByte (r1Byte flags))

/-- A byte with bit 7 set in the response poll (R155): the tenth one is returned. -/
def otherResponsePoll (s : State) : Result :=
  .next (if s.npoll - 1 = 0 then { s with npoll := s.npoll - 1 }
    else { s with npoll := s.npoll - 1 }.push [fillerExchange, .responsePoll])

/-- `framer(idx, arg, app)` (R156). -/
def execFramer (idx : Index) (arg : Long) (app : Bool) (s : State) : Result :=
  .next (s.push [.op (.sendCommand idx arg app), .latchR1])

/-- `LASTR1 <- r` (R156). -/
def pointLatchR1 (s : State) : Result := .next { s with lastR1 := s.ret.byte }

end Sys2Proof.Machine
end

