-- ==== Sys2Proof/Machine/Block.lean ====
section
/-! DEFINITION. Block Transfer Engine (43_block_transfer.md). -/

namespace Sys2Proof.Machine

/-! ## Receive -/

/-- `receive_block(t)` (R180): `Arm`, then the start-token poll. -/
def execReceiveBlock (t : Nat) (s : State) : Result := .next (s.push [.op (.arm t), fillerExchange, .tokenPoll])

/-- The start token ended the poll (R181): the payload follows. -/
def execStartTokenRead (s : State) : Result :=
  .next ({ s with bidx := 0, seqpos := s.leaving .tokenPoll }.push [.payloadIn])

/-- Another byte in the start-token poll (R181): 0xFF has the timer read, any other byte ends the poll and the read fails. -/
def otherTokenPoll (s : State) : Result :=
  .next (if s.ret.byte = Param.filler then s.push [.op .expired, .tokenExpired] else s.giveOk false)

/-- `if Expired() then exit loop` with tok = 0xFF (R181), else the poll goes on. -/
def pointTokenExpired (s : State) : Result :=
  .next (if s.ret.ok then (s.giveByte Param.filler).giveOk false else s.push [fillerExchange, .tokenPoll])

/-- The receive loop (R182), and after it the trailer (R183). -/
def pointPayloadIn (s : State) : Result :=
  .next (s.push (if s.bidx.toNat < Param.blockLen then [fillerExchange, .storeByte]
    else [fillerExchange, fillerExchange, .blockReceived]))

/-- `MemWrite(BIDX, 1, …)` of the byte received, and the next BIDX (R182). -/
def pointStoreByte (s : State) : Result :=
  if s.bidx.toNat < Param.blockLen then
    .next ({ s.bufWrite s.bidx.toNat s.ret.byte with bidx := s.bidx + 1 }.push [.payloadIn])
  else .fault (.bufOutOfRange s.bidx.toNat)

/-- `return (true, 0xFE)` (R180). -/
def pointBlockReceived (s : State) : Result := .next ((s.giveByte Param.startToken).giveOk true)

/-! ## Send -/

/-- `send_block(token)` (R185): the ready-wait first (R186). -/
def execSendBlock (token : Byte) (s : State) : Result :=
  .next (s.push [.op (.waitReady Param.tWriteReady), .blockReady token])

/-- How the token is sent: the row of the stop token, the row of the write token, or a plain exchange of any other token,
which counts as a real data block (R187). -/
def tokenPoints (c : Config) (token : Byte) : List Point :=
  if token = c.stopToken then [.op .stopToken]
  else if token = c.dataTokenWrite then [.op .dataTokenWrite]
  else [.op (.exchange token), .payloadStart]

/-- After the ready-wait (R186): a failure sets SELTO and returns (false, 0xFF). -/
def pointBlockReady (token : Byte) (s : State) : Result :=
  .next (if s.ret.ok then s.push (tokenPoints s.cfg token)
    else ({ s with selto := true }.giveByte 0xFF).giveOk false)

/-- DATA_TOKEN_WRITE (R187): one exchange, then the payload. The rule gives the token within `send_block`, whose ready-wait
comes before this row; that the row executed alone makes no ready-wait and goes on to the data response is a DESIGN CHOICE
(log 30). -/
def execDataTokenWrite (s : State) : Result := .next (s.push [.op (.exchange s.cfg.dataTokenWrite), .payloadStart])

/-- STOP_TOKEN (R191): one exchange, then `return (true, 0xFF)`. The rule gives the token within `send_block`, whose
ready-wait comes before this row; that the row executed alone makes no ready-wait and returns so is a DESIGN CHOICE (log 30). -/
def execStopToken (s : State) : Result := .next (s.push [.op (.exchange s.cfg.stopToken), .tokenSent])

/-- `return (true, 0xFF)` (R191). -/
def pointTokenSent (s : State) : Result := .next ((s.giveByte 0xFF).giveOk true)

/-- BIDX starts at 0 (R188). -/
def pointPayloadStart (s : State) : Result := .next ({ s with bidx := 0 }.push [.payloadOut])

/-- The send loop (R188), and after it the trailer (R189) and the data response (R190). -/
def pointPayloadOut (s : State) : Result :=
  .next (s.push (if s.bidx.toNat < Param.blockLen then [.op (.exchange (s.bufRead s.bidx.toNat)), .payloadNext]
    else [fillerExchange, fillerExchange, fillerExchange, .dataResponse]))

/-- The next BIDX (R188). -/
def pointPayloadNext (s : State) : Result := .next ({ s with bidx := s.bidx + 1 }.push [.payloadOut])

/-- An accepting data response (R190): `return (true, resp)`. -/
def execDataRespAccept (high : BitVec 3) (s : State) : Result :=
  .next (({ s with seqpos := s.leaving .dataResponse }.giveByte (acceptByte high)).giveOk true)

/-- Any other data response (R190): `return (false, resp)`. -/
def otherDataResponse (s : State) : Result := .next (s.giveOk false)

end Sys2Proof.Machine
end

