-- ==== Sys2Proof/Machine/Initializer.lean ====
section
/-! DEFINITION. Card Initializer (44_initializer.md). -/

namespace Sys2Proof.Machine

/-- The dummy block (R214): chip-select inactive with no exchange, then ten dummy exchanges. -/
def execInitDummyBlock (s : State) : Result := .next (s.push [.setCS false, .dummyStart])

/-- `NDUMMY <- 10` (R214). -/
def pointDummyStart (s : State) : Result :=
  .next ({ s with ndummy := Param.initDummyBytes }.push [fillerExchange, .dummyNext])

/-- `NDUMMY <- NDUMMY - 1 until NDUMMY == 0` (R214). -/
def pointDummyNext (s : State) : Result :=
  .next (if s.ndummy - 1 = 0 then { s with ndummy := s.ndummy - 1 }
    else { s with ndummy := s.ndummy - 1 }.push [fillerExchange, .dummyNext])

/-- The power-up wait (R213). -/
def execPowerUpWait (s : State) : Result := .next (s.push [.op (.arm s.cfg.tPowerup), .op .expired, .powerTest])

/-- `until e` (R213). -/
def pointPowerTest (s : State) : Result := .next (if s.ret.ok then s else s.push [.op .expired, .powerTest])

/-- One pass of the go-idle loop (R215). -/
def attemptPoints (c : Config) : List Point :=
  [.op .initDummyBlock, .op (.framer c.idxGoIdle c.goIdleArg false), .goIdleTest]

/-- `ATTEMPT <- 1` (R215). -/
def pointFirstAttempt (s : State) : Result := .next ({ s with attempt := 1 }.push (attemptPoints s.cfg))

/-- 0x01 received. At the go-idle test the card becomes Idle and INITIALIZE completes, with the card still selected (R216).
Anywhere else it is a response returned to the caller (log 14). -/
def execR1Idle (s : State) : Result :=
  match s.seqpos with
  | .goIdleTest :: k => .next { s with cardState := .idle, seqpos := .op (.complete 0) :: k }
  | _ => .next (s.giveByte 0x01)

/-- `CARDSTATE <- Error`, `release()` and `complete(-ERRCODE)` (R217, R220). -/
def State.failWith (s : State) (code : Half) : State :=
  { s with cardState := .error code }.push [.op .release, .op (.complete (negCode code))]

/-- Any other go-idle response (R215): the next attempt, or after the 255th the Error state (R217). -/
def otherGoIdleTest (s : State) : Result :=
  .next (if s.attempt = Param.goIdleMaxAttempts then s.failWith (initNoResponse s.ret.byte)
    else { s with attempt := s.attempt + 1 }.push (attemptPoints s.cfg))

/-- 0x00 received. In FINISH the card becomes Ready (R219); in READ_SECTOR and WRITE_SECTOR the transfer follows
(45_host_operations.md R243, R245). Anywhere else it is a response returned to the caller (log 14). -/
def execR1Ready (s : State) : Result :=
  match s.seqpos with
  | .finishVerdict :: k =>
    .next { s with
      byteAddr := s.lat.ba
      cardState := .ready
      seqpos := .op (.setSpeed .fast) :: .op .release :: .op (.complete 0) :: k }
  | .readCommand :: k => .next { s with seqpos := .op (.receiveBlock s.cfg.tRead) :: .readReceived :: k }
  | .writeCommand :: k => .next { s with seqpos := .op (.sendBlock s.cfg.dataTokenWrite) :: .writeSent :: k }
  | _ => .next (s.giveByte 0x00)

/-- FINISH with OK = 1 and another LASTR1 (R220): READY_REFUSED. -/
def otherFinishVerdict (s : State) : Result := .next (s.failWith (readyRefused s.lastR1))

end Sys2Proof.Machine
end

