-- ==== Sys2Proof/Machine/HostOps.lean ====
section
/-! DEFINITION. Host operations (45_host_operations.md) and their completion (60_exceptions.md). -/

namespace Sys2Proof.Machine

/-! ## The host operations -/

/-- A reserved op code (R250): no bus activity, BAD_OP. -/
def State.refuseOp (s : State) (op : Byte) : State := s.hostOp fun t => t.raiseOpError (badOp op)

/-- RESERVED_0 (R250). -/
def execHostReserved0 (s : State) : Result := .next (s.refuseOp 0)

/-- RESERVED_7 (R250). -/
def execHostReserved7 (s : State) : Result := .next (s.refuseOp 7)

/-- INITIALIZE (R242; 44_initializer.md R211 to R213). -/
def execHostInitialize (s : State) : Result :=
  .next (s.hostOp fun t =>
    { t with cardState := .uninitialized, byteAddr := false }.startAt
      [.op (.setSpeed .slow), .op .powerUpWait, .firstAttempt])

/-- READ_SECTOR and WRITE_SECTOR need Ready (R243, R245). -/
def State.ifReady (s : State) (ps : List Point) : State :=
  if s.cardState = .ready then s.startAt ps else s.raiseOpError (notReady s.cardState)

/-- SEND_COMMAND, EXCHANGE and FINISH need Idle (R246 to R248). -/
def State.ifIdle (s : State) (body : State → State) : State :=
  if s.cardState = .idle then body s else s.raiseOpError (badState s.cardState)

/-- READ_SECTOR (R243). -/
def execHostReadSector (s : State) : Result :=
  .next (s.hostOp fun t => t.ifReady [.op (.sectorArg t.lat.sector), .readArg])

/-- WRITE_SECTOR (R245). -/
def execHostWriteSector (s : State) : Result :=
  .next (s.hostOp fun t => t.ifReady [.op (.sectorArg t.lat.sector), .writeArg])

/-- SEND_COMMAND (R246). -/
def execHostSendCommand (s : State) : Result :=
  .next (s.hostOp fun t => t.ifIdle fun u =>
    u.startAt [.op (.framer u.lat.index u.lat.arg u.lat.app), .respond])

/-- EXCHANGE (R247). -/
def execHostExchange (s : State) : Result :=
  .next (s.hostOp fun t => t.ifIdle fun u => u.startAt [.op (.exchange u.lat.out), .respond])

/-- FINISH (R248): with OK = 1 LASTR1 is tested, with OK = 0 the negotiation failed. -/
def execHostFinish (s : State) : Result :=
  .next (s.hostOp fun t => t.ifIdle fun u =>
    if u.lat.ok then u.startAt [.finishVerdict]
    else (u.startAt []).failWith (negotiationFailed u.lat.detail))

/-- STATUS_READ (R249): the host reads STATUS and ERRCODE. -/
def execStatusRead (s : State) : Result := .next { s with hostData := [s.statusWord, s.errcode] }

/-! ## Their shared steps -/

/-- `sector_arg(s)` (R244). -/
def execSectorArg (sector : Long) (s : State) : Result :=
  .next (
    if s.byteAddr then
      if sectorLimit s.cfg ≤ sector.toNat then s.raiseOpError rangeError
      else { s with ret := { s.ret with arg := byteArg s.cfg sector } }
    else { s with ret := { s.ret with arg := sector } })

/-- `classify(r)` (R253). -/
def execClassify (r : Byte) (s : State) : Result :=
  .next { s with ret := { s.ret with code := s.classifyCode r } }

/-- `complete(res)` (60_exceptions.md R282). -/
def execComplete (res : Half) (s : State) : Result := .next (s.completeWith res)

/-- `raise OpError(classify(r))` (R243, R245). -/
def pointRaiseCode (s : State) : Result := .next (s.raiseOpError s.ret.code)

/-- A response other than 0x00 in READ_SECTOR or WRITE_SECTOR: `release()`, then the classified error (R243, R245). -/
def State.refuseResponse (s : State) : State :=
  s.push [.op .release, .op (.classify s.ret.byte), .raiseCode]

/-! ## READ_SECTOR -/

/-- The framer call (R243). -/
def pointReadArg (s : State) : Result :=
  .next (s.push [.op (.framer s.cfg.idxReadSingle s.ret.arg false), .readCommand])

/-- A response other than 0x00 (R243). -/
def otherReadCommand (s : State) : Result := .next s.refuseResponse

/-- `release()` after the transfer (R243). -/
def pointReadReceived (s : State) : Result := .next (s.push [.op .release, .readDone s.ret.ok s.ret.byte])

/-- The result of the transfer (R243). -/
def pointReadDone (ok : Bool) (tok : Byte) (s : State) : Result :=
  .next (if ok then s.push [.op (.complete 0)] else s.raiseOpError (dataTimeout tok))

/-! ## WRITE_SECTOR -/

/-- The framer call (R245). -/
def pointWriteArg (s : State) : Result :=
  .next (s.push [.op (.framer s.cfg.idxWriteSingle s.ret.arg false), .writeCommand])

/-- A response other than 0x00 (R245). -/
def otherWriteCommand (s : State) : Result := .next s.refuseResponse

/-- `release()` after the transfer (R245). -/
def pointWriteSent (s : State) : Result := .next (s.push [.op .release, .writeDone s.ret.ok s.ret.byte])

/-- The result of the transfer (R245). -/
def pointWriteDone (ok : Bool) (resp : Byte) (s : State) : Result :=
  .next (if ok then s.push [.op (.complete 0)]
    else if s.selto then s.raiseOpError readyWaitTimeout else s.raiseOpError (writeReject resp))

/-! ## SEND_COMMAND and EXCHANGE -/

/-- `RESP <- zext_16(r)`, then `complete(0)` (R246, R247). -/
def pointRespond (s : State) : Result :=
  .next ({ s with win := { s.win with resp := s.ret.byte.setWidth 16 } }.push [.op (.complete 0)])

end Sys2Proof.Machine
end

