-- ==== Sys2Proof/Machine/HostWindow.lean ====
section
/-! DEFINITION. The host register window (10_state.md R33 to R43). -/

namespace Sys2Proof.Machine

/-- The offset of CTRL. -/
def ctrlOffset : Nat := 0x000

/-- The offset of BUF. -/
def bufOffset : Nat := 0x200

/-- The size of the window. -/
def windowSize : Nat := 0x400

/-- The offset of an address inside the window that starts at BASE. -/
def windowOffset? (c : Config) (addr : Nat) : Option Nat :=
  if c.base ≤ addr ∧ addr < c.base + windowSize then some (addr - c.base) else none

/-- What a 16-bit read at an offset below 0x200 returns (10_state.md R33, R34, R42; 20_memory.md R67 for odd offsets). -/
def State.regRead (s : State) (off : Nat) : Half :=
  match off with
  | 0x000 => 0
  | 0x002 => s.statusWord
  | 0x004 => s.win.sectorLo
  | 0x006 => s.win.sectorHi
  | 0x008 => s.win.cmd
  | 0x00A => s.win.argLo
  | 0x00C => s.win.argHi
  | 0x00E => s.win.xdata
  | 0x010 => s.win.fin
  | 0x012 => s.win.resp
  | 0x014 => s.win.result
  | 0x016 => s.errcode
  | _ => 0

/-- Write an operand register, or be the overrun of 45_host_operations.md R241. -/
def State.writeOperand (s : State) (w : Window) : State :=
  if s.busy then { s with ovr := true } else { s with win := w }

/-- A 16-bit write at an offset below 0x200 other than CTRL's: the operand registers; OVR is cleared by writing 1 to STATUS
bit 1; everything else is ignored (10_state.md R35 to R42). -/
def State.regWrite (s : State) (off : Nat) (v : Half) : State :=
  match off with
  | 0x002 => if v.getLsbD 1 then { s with ovr := false } else s
  | 0x004 => s.writeOperand { s.win with sectorLo := v }
  | 0x006 => s.writeOperand { s.win with sectorHi := v }
  | 0x008 => s.writeOperand { s.win with cmd := v &&& cmdMask }
  | 0x00A => s.writeOperand { s.win with argLo := v }
  | 0x00C => s.writeOperand { s.win with argHi := v }
  | 0x00E => s.writeOperand { s.win with xdata := v &&& xdataMask }
  | 0x010 => s.writeOperand { s.win with fin := v &&& finMask }
  | _ => s

/-- A host read of a byte of BUF: the stored byte, or while BUSY = 1 a free byte (20_memory.md R72). -/
def State.hostBufRead (s : State) (a : Nat) : State :=
  if s.busy then
    { s with
      hostData := [(Config.freeHostByte s.env.hostDraws).setWidth 16]
      env := { s.env with hostDraws := s.env.hostDraws + 1 } }
  else { s with hostData := [(s.bufRead a).setWidth 16] }

/-- A host write of a byte of BUF: stored, or while BUSY = 1 the overrun (20_memory.md R72; 45_host_operations.md R241). -/
def State.hostBufWrite (s : State) (a : Nat) (b : Byte) : State :=
  if s.busy then { s with ovr := true } else s.bufWrite a b

/-- A host read (10_state.md R33). -/
def hostReadAt (addr : Nat) (s : State) : Result :=
  match windowOffset? s.cfg addr with
  | none => .fault (.outsideWindow addr)
  | some off =>
    .next (if off < bufOffset then { s with hostData := [s.regRead off] } else s.hostBufRead (off - bufOffset))

/-- A host write anywhere but at CTRL (10_state.md R33). A byte of BUF takes bits 7:0 of the value (log 10). -/
def hostWriteAt (addr : Nat) (v : Half) (s : State) : Result :=
  match windowOffset? s.cfg addr with
  | none => .fault (.outsideWindow addr)
  | some off =>
    .next (if off < bufOffset then s.regWrite off v else s.hostBufWrite (off - bufOffset) (v.extractLsb' 0 8))

end Sys2Proof.Machine
end

