-- ==== Sys2Proof/Machine/Dispatch.lean ====
section
/-! DEFINITION. One arm for each operation: its meaning. -/

namespace Sys2Proof.Machine

def exec (i : Instr) (s : State) : Host.Outcome State Fault Refusal :=
  match i with
  | .hostReserved0 => Sys2Proof.Machine.execHostReserved0 s
  | .hostInitialize => Sys2Proof.Machine.execHostInitialize s
  | .hostReadSector => Sys2Proof.Machine.execHostReadSector s
  | .hostWriteSector => Sys2Proof.Machine.execHostWriteSector s
  | .hostSendCommand => Sys2Proof.Machine.execHostSendCommand s
  | .hostExchange => Sys2Proof.Machine.execHostExchange s
  | .hostFinish => Sys2Proof.Machine.execHostFinish s
  | .hostReserved7 => Sys2Proof.Machine.execHostReserved7 s
  | .statusRead => Sys2Proof.Machine.execStatusRead s
  | .cmdFrame idx arg => Sys2Proof.Machine.execCmdFrame idx arg s
  | .goIdle arg => Sys2Proof.Machine.execGoIdle arg s
  | .ifCond arg => Sys2Proof.Machine.execIfCond arg s
  | .stopTransmission arg => Sys2Proof.Machine.execStopTransmission arg s
  | .readSingleBlock arg => Sys2Proof.Machine.execReadSingleBlock arg s
  | .writeSingleBlock arg => Sys2Proof.Machine.execWriteSingleBlock arg s
  | .appPrefix => Sys2Proof.Machine.execAppPrefix s
  | .startTokenRead => Sys2Proof.Machine.execStartTokenRead s
  | .dataTokenWrite => Sys2Proof.Machine.execDataTokenWrite s
  | .stopToken => Sys2Proof.Machine.execStopToken s
  | .r1Valid flags => Sys2Proof.Machine.execR1Valid flags s
  | .r1Idle => Sys2Proof.Machine.execR1Idle s
  | .r1Ready => Sys2Proof.Machine.execR1Ready s
  | .dataRespAccept high => Sys2Proof.Machine.execDataRespAccept high s
  | .cardReadyIdleByte => Sys2Proof.Machine.execCardReadyIdleByte s
  | .exchange out => Sys2Proof.Machine.execExchange out s
  | .select => Sys2Proof.Machine.execSelect s
  | .deselect => Sys2Proof.Machine.execDeselect s
  | .arm n => Sys2Proof.Machine.execArm n s
  | .tick => Sys2Proof.Machine.execTick s
  | .expired => Sys2Proof.Machine.execExpired s
  | .setSpeed speed => Sys2Proof.Machine.execSetSpeed speed s
  | .waitReady t => Sys2Proof.Machine.execWaitReady t s
  | .selectAndWait t => Sys2Proof.Machine.execSelectAndWait t s
  | .release => Sys2Proof.Machine.execRelease s
  | .sendCommand idx arg app => Sys2Proof.Machine.execSendCommand idx arg app s
  | .framer idx arg app => Sys2Proof.Machine.execFramer idx arg app s
  | .receiveBlock t => Sys2Proof.Machine.execReceiveBlock t s
  | .sendBlock token => Sys2Proof.Machine.execSendBlock token s
  | .sectorArg sector => Sys2Proof.Machine.execSectorArg sector s
  | .classify r => Sys2Proof.Machine.execClassify r s
  | .complete res => Sys2Proof.Machine.execComplete res s
  | .initDummyBlock => Sys2Proof.Machine.execInitDummyBlock s
  | .powerUpWait => Sys2Proof.Machine.execPowerUpWait s

end Sys2Proof.Machine
end

