-- ==== Sys2Proof/Machine/Sequencer.lean ====
section
/-! DEFINITION. The steps of the agents (00_scope.md R6, R7): SEQ at SEQPOS, TICK, and HOST at the register window. -/

namespace Sys2Proof.Machine

/-- The byte a TEST point decodes, and where it stands (30_encoding.md R97). -/
def testAt (p : Point) (s : State) : Option (Port × Byte) :=
  match p with
  | .readyPoll => some (.readyPoll, s.ret.byte)
  | .responsePoll => some (.responsePoll, s.ret.byte)
  | .tokenPoll => some (.tokenPoll, s.ret.byte)
  | .dataResponse => some (.dataResponse, s.ret.byte)
  | .goIdleTest => some (.goIdleTest, s.ret.byte)
  | .readCommand => some (.readyTest, s.ret.byte)
  | .writeCommand => some (.readyTest, s.ret.byte)
  | .finishVerdict => some (.readyTest, s.lastR1)
  | _ => none

/-- The point `p`, in the state whose SEQPOS is what follows it. A TEST point comes here for its "other" branch. -/
def runPoint (p : Point) (s : State) : Result :=
  match p with
  | .op i => exec i s
  | .setCS asserted => pointSetCS asserted s
  | .word nbits w =>
    match decodeWord nbits w with
    | .ok i => exec i s
    | .error e => .refused (.undecodable e)
  | .readyPoll => otherReadyPoll s
  | .readyExpired => pointReadyExpired s
  | .selected => pointSelected s
  | .giveOk ok => pointGiveOk ok s
  | .prefixed idx arg => pointPrefixed idx arg s
  | .commandSelected idx arg => pointCommandSelected idx arg s
  | .pollStart => pointPollStart s
  | .responsePoll => otherResponsePoll s
  | .latchR1 => pointLatchR1 s
  | .tokenPoll => otherTokenPoll s
  | .tokenExpired => pointTokenExpired s
  | .payloadIn => pointPayloadIn s
  | .storeByte => pointStoreByte s
  | .blockReceived => pointBlockReceived s
  | .blockReady token => pointBlockReady token s
  | .payloadStart => pointPayloadStart s
  | .payloadOut => pointPayloadOut s
  | .payloadNext => pointPayloadNext s
  | .dataResponse => otherDataResponse s
  | .tokenSent => pointTokenSent s
  | .dummyStart => pointDummyStart s
  | .dummyNext => pointDummyNext s
  | .powerTest => pointPowerTest s
  | .firstAttempt => pointFirstAttempt s
  | .goIdleTest => otherGoIdleTest s
  | .readArg => pointReadArg s
  | .readCommand => otherReadCommand s
  | .readReceived => pointReadReceived s
  | .readDone ok tok => pointReadDone ok tok s
  | .writeArg => pointWriteArg s
  | .writeCommand => otherWriteCommand s
  | .writeSent => pointWriteSent s
  | .writeDone ok resp => pointWriteDone ok resp s
  | .raiseCode => pointRaiseCode s
  | .respond => pointRespond s
  | .finishVerdict => otherFinishVerdict s

/-- One point of the pseudocode. At IDLE there is none (60_exceptions.md R293). At a TEST point the byte under test is decoded
where it stands: the operation it is runs with the point still in place, and any other byte takes the point's "other" branch. -/
def pointStep (s : State) : Result :=
  match s.seqpos with
  | [] => .next s
  | p :: k =>
    match testAt p s with
    | none => runPoint p { s with seqpos := k }
    | some (port, b) =>
      match decode s.cfg port [b] with
      | .ok i => exec i s
      | .error _ => runPoint p { s with seqpos := k }

/-- Go on from an outcome. -/
def andThen (r : Result) (f : State → Result) : Result :=
  match r with
  | .next t => f t
  | .fault e => .fault e
  | .refused e => .refused e

/-- `n` points of the pseudocode with no other agent between them. -/
def pointRun : Nat → State → Result
  | 0, s => .next s
  | n + 1, s => andThen (pointStep s) (pointRun n)

/-! ## Steps of SEQ -/

/-- A primitive of 00_scope.md R6: an exchange, a chip-select change, a speed change, an arming or a read of the timer. -/
def Point.isPrimitive : Point → Bool
  | .setCS _ => true
  | .op (.exchange _) => true
  | .op (.arm _) => true
  | .op .expired => true
  | .op (.setSpeed _) => true
  | _ => false

/-- SEQPOS is IDLE or at a primitive (10_state.md R30). -/
def State.settled (s : State) : Bool :=
  match s.seqpos with
  | [] => true
  | p :: _ => p.isPrimitive

/-- The control flow to the next primitive: calls, tests, assignments, returns and the completion are no steps of their own
(00_scope.md R6). At most `n` points. -/
def settleFor : Nat → State → Result
  | 0, s => .next s
  | n + 1, s => if s.settled then .next s else andThen (pointStep s) (settleFor n)

/-- More points than the control flow from any SEQPOS to the next primitive passes: each pending point is passed at most
once, and the calls that open at one are at most 8 deep. -/
def settleBound (s : State) : Nat := 8 * s.seqpos.length + 8

/-- Move SEQPOS to the next primitive, or to IDLE (10_state.md R30; log 3). -/
def State.settle (s : State) : Result := settleFor (settleBound s) s

/-- One step of SEQ (10_state.md R30): the primitive at SEQPOS, and SEQPOS moved to the next one, which the control flow and
the values returned select. -/
def seqStep (s : State) : Result := andThen (pointStep s) State.settle

/-- `n` steps of SEQ with no other agent between them. -/
def seqRun : Nat → State → Result
  | 0, s => .next s
  | n + 1, s => andThen (seqStep s) (seqRun n)

/-! ## Moves of the agents -/

/-- A host write: at CTRL the value is decoded and the operation runs (10_state.md R34), anywhere else it is a register or
a byte of BUF. -/
def hostWrite (addr : Nat) (v : Half) (s : State) : Result :=
  if addr = s.cfg.base + ctrlOffset then
    match decode s.cfg .ctrl [v.extractLsb' 0 8, v.extractLsb' 8 8] with
    | .ok i => exec i s
    | .error e => .refused (.undecodable e)
  else hostWriteAt addr v s

/-- What a move of an agent does before the control flow that follows it. -/
def firstAct (e : Event) (s : State) : Result :=
  match e with
  | .seq => pointStep s
  | .tick => exec .tick s
  | .hostRead addr => hostReadAt addr s
  | .hostWrite addr v => hostWrite addr v s
  | .statusRead => exec .statusRead s

/-- The moves that SEQ's control flow follows: its own steps, and the CTRL write that starts an operation
(45_host_operations.md R240; log 25). -/
def movesSeq (e : Event) (s : State) : Bool :=
  match e with
  | .seq => true
  | .hostWrite addr _ => addr == s.cfg.base + ctrlOffset && !s.busy
  | _ => false

/-- One move of the environment. -/
def runEvent (e : Event) (s : State) : Result :=
  if movesSeq e s then andThen (firstAct e s) State.settle else firstAct e s

/-- The move that comes next (log 1). -/
def Environment.nextEvent (e : Environment) : Event :=
  match e.inbox with
  | ev :: _ => ev
  | [] => Config.freeEvent e.turns

/-- The environment after that move is taken. -/
def Environment.afterEvent (e : Environment) : Environment :=
  match e.inbox with
  | _ :: evs => { e with inbox := evs }
  | [] => { e with turns := e.turns + 1 }

/-- The state in which the next move runs. -/
def State.takeEvent (s : State) : State := { s with env := s.env.afterEvent }

/-- One step of the machine: the next move of the environment, for a well-formed configuration. -/
def stepNext (s : State) : Result :=
  if s.cfg.wellFormed then runEvent s.env.nextEvent s.takeEvent else .refused .illFormedConfig

/-- The table word `w` where the next step runs it: as a host write of CTRL when it is a CTRL value, and else at SEQPOS with
SEQ moving next (log 16). The control flow to the next primitive follows in the same step. -/
def placeWord (s : State) (nbits w : Nat) : State :=
  if isCtrlWord nbits w then
    { s with
      env := { s.env with inbox := .hostWrite (s.cfg.base + ctrlOffset) (BitVec.ofNat 16 w) :: s.env.inbox } }
  else
    { s with
      seqpos := .word nbits w :: s.seqpos
      env := { s.env with inbox := .seq :: s.env.inbox } }

end Sys2Proof.Machine
end

