-- ==== Sys2Proof/Machine/Step.lean ====
section
/-! DEFINITION. The step of the machine. -/

/-- One move of one agent (00_scope.md R7). -/
def Sys2Proof.Machine.step (s : Sys2Proof.Machine.State) :
    Host.Outcome Sys2Proof.Machine.State Sys2Proof.Machine.Fault Sys2Proof.Machine.Refusal :=
  Sys2Proof.Machine.stepNext s

/-- A word of spec/opcode_table.json placed so that the very next step runs it. -/
def Sys2Proof.Machine.State.withFetchWord (s : Sys2Proof.Machine.State) (nbits w : Nat) : Sys2Proof.Machine.State :=
  Sys2Proof.Machine.placeWord s nbits w
end

