-- ==== Sys2Proof/Safety.lean ====
section
/-! DEFINITION. What the machine keeps to: the invariant of the block, the operation a step runs, and when a step may stop. -/

namespace Sys2Proof.Machine

/-! ## The invariant -/

/-- A point at which a host operation's pseudocode still has its completion before it: the last point of every operation in
progress is one (60_exceptions.md R282). -/
def Point.closing : Point → Bool
  | .op (.complete _) => true
  | .firstAttempt => true
  | .goIdleTest => true
  | .readArg => true
  | .readCommand => true
  | .readReceived => true
  | .readDone _ _ => true
  | .writeArg => true
  | .writeCommand => true
  | .writeSent => true
  | .writeDone _ _ => true
  | .raiseCode => true
  | .respond => true
  | .finishVerdict => true
  | _ => false

/-- An operation that SEQ calls, with a duration that TCOUNT holds (40_transport_timer.md R113). The host operations and the
status read are HOST's moves, `tick` is TICK's, and a received byte is an operation only at its test. -/
def calledBySeq (c : Config) : Instr → Bool
  | .hostReserved0 | .hostInitialize | .hostReadSector | .hostWriteSector => false
  | .hostSendCommand | .hostExchange | .hostFinish | .hostReserved7 | .statusRead => false
  | .cmdFrame _ _ | .goIdle _ | .ifCond _ | .stopTransmission _ | .readSingleBlock _ | .writeSingleBlock _ | .appPrefix => true
  | .startTokenRead => false
  | .dataTokenWrite | .stopToken => true
  | .r1Valid _ | .r1Idle | .r1Ready | .dataRespAccept _ | .cardReadyIdleByte => false
  | .exchange _ | .select | .deselect | .expired | .setSpeed _ | .release => true
  | .tick => false
  | .arm n => durationFits c n
  | .waitReady t => durationFits c t
  | .selectAndWait t => durationFits c t
  | .receiveBlock t => durationFits c t
  | .sendCommand _ _ _ | .framer _ _ _ | .sendBlock _ | .sectorArg _ | .classify _ | .complete _ => true
  | .initDummyBlock | .powerUpWait => true

/-- A point of the pseudocode: a call of it calls an operation of SEQ, and a word placed from outside is none. -/
def Point.native (c : Config) : Point → Bool
  | .op i => calledBySeq c i
  | .word _ _ => false
  | _ => true

/-- BUF is in its canonical form (20_memory.md R60). -/
abbrev State.BufCanonical (s : State) : Prop := Memory.wf s.buf = true

/-- TCOUNT has TCOUNT_WIDTH bits (10_state.md R22). -/
abbrev State.TcountFits (s : State) : Prop := s.tcount ≤ s.cfg.maxDuration

/-- ERRCODE is nonzero exactly when CARDSTATE = Error (10_state.md R20). -/
abbrev State.CodeFaithful (s : State) : Prop := s.errcode ≠ 0 ↔ s.cardState.code = 3

/-- The reserved bits of CMD, XDATA, FIN and RESP read 0 (10_state.md R37 to R40). -/
abbrev State.ReservedZero (s : State) : Prop :=
  s.win.cmd &&& ~~~cmdMask = 0 ∧ s.win.xdata &&& ~~~xdataMask = 0 ∧ s.win.fin &&& ~~~finMask = 0 ∧
    s.win.resp &&& ~~~(0x00FF : Half) = 0

/-- BUSY = 1 exactly while SEQPOS is not IDLE, and then the completion of the operation is still to come, behind the last
pending point and no other (10_state.md R31; 60_exceptions.md R282). -/
abbrev State.OperationOpen (s : State) : Prop :=
  (s.busy = true ↔ s.seqpos ≠ []) ∧ (∀ p ∈ s.seqpos.getLast?, p.closing = true) ∧
    ∀ p ∈ s.seqpos.dropLast, p.closing = false

/-- A store to BUF is pending only right after the exchange that brings its byte, at an address of BUF (43_block_transfer.md
R182). -/
def State.StoreInRange (s : State) : Prop :=
  match s.seqpos with
  | .storeByte :: k => s.bidx.toNat < Param.blockLen ∧ .storeByte ∉ k
  | .op (.exchange _) :: .storeByte :: k => s.bidx.toNat < Param.blockLen ∧ .storeByte ∉ k
  | k => .storeByte ∉ k

/-- Every pending point is one of the pseudocode, with durations that fit. -/
abbrev State.PointsNative (s : State) : Prop := ∀ p ∈ s.seqpos, p.native s.cfg = true

/-- INITIALIZE's tests stand in Uninitialized and FINISH's in Idle (44_initializer.md R210). -/
abbrev State.PhaseFits (s : State) : Prop :=
  (.firstAttempt ∈ s.seqpos ∨ .goIdleTest ∈ s.seqpos → s.cardState = .uninitialized) ∧
    (.finishVerdict ∈ s.seqpos → s.cardState = .idle)

/-- What holds at every point of the pseudocode. -/
structure State.Sound (s : State) : Prop where
  bufCanonical : s.BufCanonical
  tcountFits : s.TcountFits
  codeFaithful : s.CodeFaithful
  reservedZero : s.ReservedZero
  operationOpen : s.OperationOpen
  storeInRange : s.StoreInRange
  pointsNative : s.PointsNative
  phaseFits : s.PhaseFits

/-- The invariant of the block: what holds at every point, and between two steps SEQPOS is IDLE or at a primitive
(10_state.md R30). -/
structure State.Inv (s : State) : Prop where
  sound : s.Sound
  settled : s.settled = true

/-! ## What a move runs -/

/-- The operation that SEQ runs at SEQPOS, if it runs one: the operation called there, the one a placed word is, or the one
that the byte under test is. -/
def State.seqInstr? (s : State) : Option Instr :=
  match s.seqpos with
  | [] => none
  | .op i :: _ => some i
  | .word nbits w :: _ => decodeTableWord nbits w
  | p :: _ =>
    match testAt p s with
    | none => none
    | some (port, b) =>
      match decode s.cfg port [b] with
      | .ok i => some i
      | .error _ => none

/-- The operation that the first act of a move runs, if it runs one. -/
def State.eventInstr? (s : State) : Event → Option Instr
  | .seq => s.seqInstr?
  | .tick => some .tick
  | .statusRead => some .statusRead
  | .hostRead _ => none
  | .hostWrite addr v => if addr = s.cfg.base + ctrlOffset then some (decodeCtrl v) else none

/-- The point that the first act of a move of SEQ runs, if that is no operation: a primitive SetCS, an assignment, a return,
or the "other" branch of a test. -/
def State.eventPoint? (s : State) (e : Event) : Option Point :=
  match e, s.seqInstr?, s.seqpos with
  | .seq, none, p :: _ => some p
  | _, _, _ => none

/-! ## What the card answers and what the block sends -/

/-- The card's answers to the next `n` exchanges. -/
def Environment.answers : Nat → Environment → List Byte
  | 0, _ => []
  | n + 1, e => e.cardByte :: Environment.answers n e.afterAnswer

/-- The environment after the next `n` exchanges. -/
def Environment.afterAnswers : Nat → Environment → Environment
  | 0, e => e
  | n + 1, e => Environment.afterAnswers n e.afterAnswer

/-- The events of exchanging the bytes `out` for the bytes `inp`, the latest first. -/
def exchanged (out inp : List Byte) : List BusEvent := (List.zipWith BusEvent.exch out inp).reverse

/-- The events of exchanging 0xFF for each of `inp`, the latest first. -/
def polled (inp : List Byte) : List BusEvent := (inp.map (BusEvent.exch 0xFF)).reverse

/-- The events of a timed poll that received `inp` and read `Expired()` as false after each byte, the latest first. -/
def timedPolls (inp : List Byte) : List BusEvent := (inp.flatMap fun b => [.exch 0xFF b, .expired false]).reverse

/-- The bytes the block sent in a wire record, in the order it sent them. -/
def sentBytes (w : List BusEvent) : List Byte :=
  w.reverse.filterMap fun e =>
    match e with
    | .exch out _ => some out
    | _ => none

/-- The filler exchanges of 42_command_framer.md R154 that follow the words of an operation's frame. -/
def fillersAfter : Instr → List Byte
  | .stopTransmission _ => [0xFF]
  | _ => []

/-- The bytes of BUF in ascending order (20_memory.md R64). -/
def State.bufBytes (s : State) : List Byte := (List.range 512).map s.bufRead

/-- Whether an event is a step of TICK. -/
def isTick (e : BusEvent) : Bool := e == .tick

/-! ## When a step may stop -/

/-- A host access inside the block's window (10_state.md R33); the other moves are always in bounds. -/
def eventInWindow (c : Config) : Event → Bool
  | .hostRead addr => (windowOffset? c addr).isSome
  | .hostWrite addr _ => (windowOffset? c addr).isSome
  | _ => true

/-- The machine goes on: the next step answers a next state. -/
def State.goesOn (s : State) : Prop := ∃ t, step s = .next t

end Sys2Proof.Machine
end

