-- ==== Sys2Proof/Certificates/Slice0/Obligations.lean ====
section
/-! DEFINITION. The statements about the machine, for the provers. Each docstring names the rule of spec/ it formalises.
`seqRun n` is n steps of SEQ with no other agent between them, `pointRun n` is n points of the pseudocode, and `t.settle` moves
SEQPOS on to the next primitive. `s.env.answers n` is what the card answers to the next n exchanges, whatever the environment
is. A wire record is written the latest event first. -/

open Sys2Proof Sys2Proof.Machine

/-! ## Encodings -/

/-- Sample words decode to the operation they stand for: two CTRL values, frames of each CRC byte and bytes at two of the tests,
written out from 30_encoding.md (R80 to R94); the status read, whose word is the model's choice (log 27); and a frame with a
wrong CRC byte, which the model's decoder refuses (log 15, DEDUCED). -/
def Obligations.SampleWordsDecode : Prop :=
  decode .default .ctrl [0x02, 0x00] = .ok .hostReadSector ∧
  decode .default .ctrl [0xFA, 0xFF] = .ok .hostReadSector ∧
  decode .default .hostRead [0x02, 0x00, 0x16, 0x00] = .ok .statusRead ∧
  decode .default .frame [0x40, 0x00, 0x00, 0x00, 0x00, 0x95] = .ok (.goIdle 0) ∧
  decode .default .frame [0x48, 0x00, 0x00, 0x01, 0xAA, 0x87] = .ok (.ifCond 0x1AA) ∧
  decode .default .frame [0x58, 0x00, 0x00, 0x00, 0x07, 0x01] = .ok (.writeSingleBlock 7) ∧
  decode .default .frame [0x77, 0x00, 0x00, 0x00, 0x00, 0x01] = .ok .appPrefix ∧
  decode .default .frame [0x69, 0x40, 0x00, 0x00, 0x00, 0x01] = .ok (.cmdFrame 41 0x40000000) ∧
  decode .default .frame [0x51, 0x00, 0x00, 0x00, 0x05, 0x0F] = .error .wrongCrc ∧
  decode .default .tokenPoll [0xFE] = .ok .startTokenRead ∧
  decode .default .dataResponse [0xE5] = .ok (.dataRespAccept 7) ∧
  decode .default .dataResponse [0x1D] = .error .noSpecialMeaning

/-- Decoding the words of a well-formed operation, at the place where they stand, gives the operation back, for every
configuration that keeps the rows apart: no bit of an encoding is dropped. -/
def Obligations.DecodeEncodeRoundTrip : Prop :=
  ∀ (c : Config) (i : Instr) (p : Port) (bs : List Byte),
    c.rowsDistinct = true → i.wellFormed c = true → encode c i = some (p, bs) → decode c p bs = .ok i

/-- R80, R81, R82, R83: the frame of an index and an argument is the six bytes 0x40 + index, the argument most significant
byte first, and the CRC byte of the index, for every configuration; the stated CRC bytes are 0x95 for index 0 and 0x87 for
index 8. -/
def Obligations.FrameLayout : Prop :=
  Config.default.idxGoIdle = 0 ∧ Config.default.crcGoIdle = 0x95 ∧
  Config.default.idxIfCond = 8 ∧ Config.default.crcIfCond = 0x87 ∧
  ∀ (c : Config) (idx : Index) (arg : Long),
    frameBytes c idx arg =
      [BitVec.ofNat 8 (0x40 + idx.toNat), BitVec.ofNat 8 (arg.toNat / 2 ^ 24), BitVec.ofNat 8 (arg.toNat / 2 ^ 16),
        BitVec.ofNat 8 (arg.toNat / 2 ^ 8), BitVec.ofNat 8 arg.toNat,
        if idx = c.idxGoIdle then c.crcGoIdle else if idx = c.idxIfCond then c.crcIfCond else 0x01]

/-- The bytes that decode as a frame are exactly the frames the block builds, each as the row of its index and argument. So the
decoder refuses a frame whose CRC byte is not its index's, or whose first byte is not in 0x40 to 0x7F: the model's choice (log
15, DEDUCED), since no rule of the spec decodes a frame. -/
def Obligations.FramesAreThoseTheBlockBuilds : Prop :=
  ∀ (c : Config) (bs : List Byte) (i : Instr),
    decode c .frame bs = .ok i ↔ ∃ idx arg, bs = frameBytes c idx arg ∧ i = frameOf c idx arg

/-- R94: CTRL decodes by bits 2:0 alone, to the operation of 30_encoding.md R93's table, and never refuses a value. -/
def Obligations.CtrlDecodesByLowBits : Prop :=
  ∀ (c : Config) (v : Half),
    decode c .ctrl [v.extractLsb' 0 8, v.extractLsb' 8 8] =
      .ok (match v.toNat % 8 with
        | 0 => .hostReserved0
        | 1 => .hostInitialize
        | 2 => .hostReadSector
        | 3 => .hostWriteSector
        | 4 => .hostSendCommand
        | 5 => .hostExchange
        | 6 => .hostFinish
        | _ => .hostReserved7)

/-! ## Reset and the step -/

/-- R46: what power-on reset leaves, register by register; BUF is the free value at every address, and no event has happened.
The rule's loop counters are unspecified and nothing is said of them. -/
def Obligations.ResetValues : Prop :=
  State.reset.cardState = .uninitialized ∧ State.reset.errcode = 0 ∧ State.reset.tcount = 0 ∧ State.reset.csa = false ∧
  State.reset.speed = .slow ∧ State.reset.byteAddr = false ∧ State.reset.selto = false ∧ State.reset.lastR1 = 0xFF ∧
  State.reset.seqpos = [] ∧ State.reset.busy = false ∧ State.reset.ovr = false ∧
  (∀ off ∈ [0x000, 0x002, 0x004, 0x006, 0x008, 0x00A, 0x00C, 0x00E, 0x010, 0x014, 0x016], State.reset.regRead off = 0) ∧
  State.reset.regRead 0x012 = 0x00FF ∧
  (∀ a, State.reset.bufRead a = Config.freeBufByte a) ∧ State.reset.wire = []

/-- A step runs the operation it decodes. A well-formed configuration and a move of SEQ: the operation called at SEQPOS runs
with SEQPOS moved past it, a placed table word runs the operation it decodes to, and the byte at a test that is an operation
runs it with the test in place; then SEQPOS moves on to the next primitive (R30). At IDLE nothing changes. A host write of CTRL
runs the operation its value decodes to, and while BUSY = 0 SEQPOS moves on to the first primitive (log 25); TICK runs `tick`,
and the host's `status()` runs STATUS_READ (log 26). A word of the table placed by `withFetchWord` is what the very next step
runs (the model's choice, log 16). -/
def Obligations.StepRunsDecodedOperation : Prop :=
  ∀ (s : State) (evs : List Event), s.cfg.wellFormed = true →
    let rest : State := { s with env := { s.env with inbox := evs } }
    (s.env.inbox = .seq :: evs →
      (∀ i k, s.seqpos = .op i :: k → step s = andThen (exec i { rest with seqpos := k }) State.settle) ∧
      (∀ nbits w k i, s.seqpos = .word nbits w :: k → decodeTableWord nbits w = some i →
        step s = andThen (exec i { rest with seqpos := k }) State.settle) ∧
      (∀ p k port b i, s.seqpos = p :: k → testAt p s = some (port, b) → decode s.cfg port [b] = .ok i →
        step s = andThen (exec i rest) State.settle) ∧
      (s.seqpos = [] → step s = .next rest)) ∧
    (∀ v, s.env.inbox = .hostWrite (s.cfg.base + ctrlOffset) v :: evs →
      step s = if s.busy then exec (decodeCtrl v) rest else andThen (exec (decodeCtrl v) rest) State.settle) ∧
    (s.env.inbox = .tick :: evs → step s = exec .tick rest) ∧
    (s.env.inbox = .statusRead :: evs → step s = exec .statusRead rest) ∧
    (∀ nbits w i, decodeTableWord nbits w = some i →
      step (s.withFetchWord nbits w) =
        if isCtrlWord nbits w && s.busy then exec i s else andThen (exec i s) State.settle)

/-- R6, R30 and decision D1: in a state that meets the invariant and has an operation in progress, a step of SEQ makes exactly
one event of the five, never a tick, and leaves SEQPOS at IDLE or at the next primitive; the points it passes are those of the
pseudocode. Every step of the machine is the first act of its move followed by points of the pseudocode, and only a step of SEQ
or the CTRL write that starts an operation passes any (that these points are no steps of their own: log 3). -/
def Obligations.SeqStepIsOneEvent : Prop :=
  (∀ s : State, s.Inv → s.cfg.wellFormed = true → s.seqpos ≠ [] →
    ∃ t, seqStep s = .next t ∧ t.settled = true ∧ (∃ m, pointRun (m + 1) s = .next t) ∧
      ∃ e, t.wire = e :: s.wire ∧ isTick e = false) ∧
  (∀ s t : State, step s = .next t → ∃ u n, firstAct s.env.nextEvent s.takeEvent = .next u ∧ pointRun n u = .next t ∧
    (movesSeq s.env.nextEvent s.takeEvent = false → t = u))

/-! ## The invariant -/

/-- The invariant of the block holds right after reset. -/
def Obligations.InvariantHoldsAtReset : Prop := State.reset.Inv

/-- Every step keeps the invariant of the block: BUF stays canonical, TCOUNT stays within its width (R22), ERRCODE is nonzero
exactly in Error (R20), the reserved bits of CMD, XDATA, FIN and RESP stay 0 (R37 to R40), BUSY = 1 exactly while an operation is
in progress whose one completion is still to come (R31, R282), a pending store to BUF is in range (R182), INITIALIZE's tests
stand in Uninitialized and FINISH's in Idle (R210), and SEQPOS is IDLE or at a primitive (R30). -/
def Obligations.StepKeepsInvariant : Prop := ∀ s t : State, s.Inv → step s = .next t → t.Inv

/-- From every state that meets the invariant, whatever the card answers and whatever the host does inside its window, the
machine goes on: no fault and no refusal (60_exceptions.md R280: the block raises no trap). -/
def Obligations.MachineNeverStops : Prop :=
  ∀ s : State, s.Inv → s.cfg.wellFormed = true → eventInWindow s.cfg s.env.nextEvent = true → s.goesOn

/-! ## Who writes what -/

/-- R21 and R210: CARDSTATE and ERRCODE change only by the transitions of R210, each with its value: INITIALIZE starts
(Uninitialized), the go-idle response 0x01 (Idle), the 255th go-idle response other than 0x01 (Error 0x01 | r), FINISH with
LASTR1 = 0x00 (Ready), and FINISH that fails (Error 0x08 | DETAIL or 0x0C | LASTR1). That INITIALIZE's and FINISH's first writes
stand in the first act of the CTRL write is the model's reading (log 25). -/
def Obligations.CardStateWriters : Prop :=
  ∀ (s t : State) (e : Event), s.Sound → firstAct e s = .next t → t.cardState ≠ s.cardState →
    (s.eventInstr? e = some .hostInitialize ∧ t.cardState = .uninitialized) ∨
    (s.eventInstr? e = some .r1Idle ∧ s.seqpos.head? = some .goIdleTest ∧ s.cardState = .uninitialized ∧
      s.ret.byte = 0x01 ∧ t.cardState = .idle) ∨
    (s.eventPoint? e = some .goIdleTest ∧ s.cardState = .uninitialized ∧ s.attempt = 255 ∧ s.ret.byte ≠ 0x01 ∧
      t.cardState = .error (0x01#8 ++ s.ret.byte)) ∨
    (s.eventInstr? e = some .r1Ready ∧ s.seqpos.head? = some .finishVerdict ∧ s.cardState = .idle ∧ s.lastR1 = 0x00 ∧
      t.cardState = .ready) ∨
    (s.eventInstr? e = some .hostFinish ∧ s.cardState = .idle ∧ s.win.fin.getLsbD 0 = false ∧
      t.cardState = .error (0x08#8 ++ s.win.fin.extractLsb' 8 8)) ∨
    (s.eventPoint? e = some .finishVerdict ∧ s.cardState = .idle ∧ s.lastR1 ≠ 0x00 ∧
      t.cardState = .error (0x0C#8 ++ s.lastR1))

/-- Who writes TCOUNT (10_state.md R22: only `Arm`, with its duration, and TICK), CSA (R24: only `SetCS`), SPEED (R25: only
`SetSpeed`), BYTEADDR (R26: only INITIALIZE, which clears it, and FINISH at its test of LASTR1, which copies its BA), LASTR1 (R28:
only where `framer` ends); and nothing writes the configuration. That INITIALIZE clears BYTEADDR in the first act of the CTRL
write is the model's reading (log 25). -/
def Obligations.LineTimerAndResponseWriters : Prop :=
  ∀ (s t : State) (e : Event), s.Sound → firstAct e s = .next t →
    (t.tcount ≠ s.tcount →
      (s.eventInstr? e = some .tick ∧ t.tcount = s.tcount - 1) ∨ s.eventInstr? e = some (.arm t.tcount)) ∧
    (t.csa ≠ s.csa → s.eventPoint? e = some (.setCS t.csa)) ∧
    (t.speed ≠ s.speed → s.eventInstr? e = some (.setSpeed t.speed)) ∧
    (t.byteAddr ≠ s.byteAddr →
      (s.eventInstr? e = some .hostInitialize ∧ t.byteAddr = false) ∨
      (s.eventInstr? e = some .r1Ready ∧ s.seqpos.head? = some .finishVerdict ∧ t.byteAddr = s.lat.ba)) ∧
    (t.lastR1 ≠ s.lastR1 → s.eventPoint? e = some .latchR1 ∧ t.lastR1 = s.ret.byte) ∧
    t.cfg = s.cfg

/-- SELTO (10_state.md R27) is cleared only at the entry of `send_command` and set only where its selection or `send_block`'s
ready-wait has failed. -/
def Obligations.SeltoWriters : Prop :=
  ∀ (s t : State) (e : Event), firstAct e s = .next t → t.selto ≠ s.selto →
    (t.selto = false ∧ ∃ idx arg app, s.eventInstr? e = some (.sendCommand idx arg app)) ∨
    (t.selto = true ∧ s.ret.ok = false ∧
      ((∃ idx arg, s.eventPoint? e = some (.commandSelected idx arg)) ∨ ∃ tok, s.eventPoint? e = some (.blockReady tok)))

/-- At every point of the pseudocode and for every move: BUSY (10_state.md R31) is set only by a CTRL write and cleared only by
`complete`; OVR (R32) is set only by a host write while BUSY = 1 and cleared only by a host write to STATUS with bit 1 set; RESP
(R40) is written only where SEND_COMMAND or EXCHANGE ends, and RESULT (R41) only by `complete`. -/
def Obligations.HandshakeWriters : Prop :=
  ∀ (s t : State) (e : Event), s.Sound → firstAct e s = .next t →
    (s.busy = false → t.busy = true → ∃ v, e = .hostWrite s.cfg.base v) ∧
    (s.busy = true → t.busy = false → ∃ res, s.eventInstr? e = some (.complete res)) ∧
    (s.ovr = false → t.ovr = true → s.busy = true ∧ ∃ addr v, e = .hostWrite addr v) ∧
    (s.ovr = true → t.ovr = false → ∃ v, e = .hostWrite (s.cfg.base + 0x002) v ∧ v.getLsbD 1 = true) ∧
    (t.win.resp ≠ s.win.resp → s.eventPoint? e = some .respond ∧ t.win.resp = s.ret.byte.setWidth 16) ∧
    (t.win.result ≠ s.win.result → s.eventInstr? e = some (.complete t.win.result))

/-- BUF (20_memory.md R60, R72), at every point of the pseudocode and for every move: every byte reads as before, unless the
point is `receive_block`'s store, and then every byte but BUF[BIDX] does, or the move is a host write while BUSY = 0, and then
every byte but the one at the written offset does. That this byte takes bits 7:0 of the value is the model's choice (log 10). -/
def Obligations.BufWriters : Prop :=
  ∀ (s t : State) (e : Event), firstAct e s = .next t → ∀ a, t.bufRead a ≠ s.bufRead a →
    (s.eventPoint? e = some .storeByte ∧ a = s.bidx.toNat ∧ t.bufRead a = s.ret.byte) ∨
    (s.busy = false ∧ ∃ v, e = .hostWrite (s.cfg.base + 0x200 + a) v ∧ t.bufRead a = v.extractLsb' 0 8)

/-! ## Transport and Timeout Clock -/

/-- R110: `exchange` sends its byte and returns the byte the card answers, and writes no state of the block. -/
def Obligations.ExchangeSendsAndReceives : Prop :=
  ∀ (s : State) (o : Byte),
    exec (.exchange o) s = .next { s with
      ret := { s.ret with byte := s.env.cardByte }
      env := s.env.afterAnswer
      wire := .exch o s.env.cardByte :: s.wire }

/-- R111, R112, R132: `select` asserts chip-select, `deselect` and `release` deassert it, each with exactly one line change
and one filler exchange, whatever CSA was. -/
def Obligations.SelectDeselectRelease : Prop :=
  ∀ s : State,
    let after (b : Bool) : State := { s with
      csa := b
      ret := { s.ret with byte := s.env.cardByte }
      env := s.env.afterAnswer
      wire := .exch 0xFF s.env.cardByte :: (if b then .sel else .desel) :: s.wire }
    (∃ t, exec .select s = .next t ∧ pointRun 2 t = .next (after true)) ∧
    (∃ t, exec .deselect s = .next t ∧ pointRun 2 t = .next (after false)) ∧
    (∃ t, exec .release s = .next t ∧ pointRun 3 t = .next (after false))

/-- R113, R114, R115, R118: `arm` writes TCOUNT; `tick` decrements it and stops at zero; `expired` reads whether it is zero;
`set_speed` writes SPEED. That `arm` itself refuses a duration above 2 ^ TCOUNT_WIDTH - 1 (65535) by name is the model's reading
of R113 (log 12, DEDUCED), and so is the width as a parameter (log 28). -/
def Obligations.TimerAndSpeedOperations : Prop :=
  Config.default.maxDuration = 65535 ∧
  ∀ s : State,
    (∀ n, n ≤ s.cfg.maxDuration → exec (.arm n) s = .next { s with tcount := n, wire := .arm n :: s.wire }) ∧
    (∀ n, s.cfg.maxDuration < n → exec (.arm n) s = .refused (.durationTooLong n)) ∧
    exec .tick s = .next { s with
      tcount := if s.tcount = 0 then 0 else s.tcount - 1
      wire := .tick :: s.wire } ∧
    exec .expired s = .next { s with
      ret := { s.ret with ok := decide (s.tcount = 0) }
      wire := .expired (decide (s.tcount = 0)) :: s.wire } ∧
    (∀ v, exec (.setSpeed v) s = .next { s with speed := v, wire := .speed v :: s.wire })

/-- R116: after `arm(n)` and exactly k ticks, `expired()` is true exactly when n ≤ k: false at once for n > 0, true after n
ticks, and true from then on. Run on the machine, with the ticks as moves of TICK. -/
def Obligations.TimerLaws : Prop :=
  ∀ (s a : State) (n k : Nat), s.cfg.wellFormed = true → n ≤ s.cfg.maxDuration → s.env.inbox = List.replicate k .tick →
    exec (.arm n) s = .next a →
    ∃ b, Host.Core.run Sys2Proof.core k a = .next b ∧
      ∃ t, exec .expired b = .next t ∧ t.ret.ok = decide (n ≤ k)

/-! ## Card Selector -/

/-- R130: `wait_ready(t)` on a card that sends the bytes `busy`, none of them 0xFF, and then 0xFF, with no tick: it returns
true after exactly one exchange more than `busy` has bytes, with one read of `Expired()` after each busy byte. -/
def Obligations.WaitReadyReturnsTrueAtFF : Prop :=
  ∀ (s : State) (t : Nat) (busy : List Byte), t ≤ s.cfg.maxDuration → (busy = [] ∨ 0 < t) → (∀ b ∈ busy, b ≠ 0xFF) →
    s.env.answers (busy.length + 1) = busy ++ [0xFF] →
    ∃ u, exec (.waitReady t) s = .next u ∧ pointRun (3 + 4 * busy.length) u = .next { s with
      tcount := t
      ret := { s.ret with byte := 0xFF, ok := true }
      env := s.env.afterAnswers (busy.length + 1)
      wire := .exch 0xFF 0xFF :: timedPolls busy ++ .arm t :: s.wire }

/-- R130, R314: the ready poll. A byte 0xFF ends the wait with true and no read of the timer, as the operation
CARD_READY_IDLE_BYTE. Any other byte ends it only when TCOUNT is 0 at the read of `Expired()` that follows, and then with
false; otherwise the poll goes on with one more exchange. -/
def Obligations.ReadyPollEnds : Prop :=
  ∀ (s : State) (k : List Point), s.seqpos = .readyPoll :: k →
    exec .cardReadyIdleByte s = .next { s with seqpos := k, ret := { s.ret with byte := 0xFF, ok := true } } ∧
    (s.ret.byte = 0xFF ↔ s.seqInstr? = some .cardReadyIdleByte) ∧
    (s.ret.byte = 0xFF → pointStep s = exec .cardReadyIdleByte s) ∧
    (s.ret.byte ≠ 0xFF → pointRun 3 s = .next { s with
      ret := { s.ret with ok := false }
      seqpos := if s.tcount = 0 then k else .op (.exchange 0xFF) :: .readyPoll :: k
      wire := .expired (s.tcount == 0) :: s.wire })

/-- R133, its ready poll: a `wait_ready(t)` called alone on a card that never sends 0xFF, under any interleaving `es` of SEQ and
TICK after its `Arm`. Every read of `Expired()` is true exactly when at least t ticks have fallen since the `Arm`; after a read
that is true there is no further exchange and no further read; and when the wait has ended it has returned false, after such a
read. (The deselection that follows in `select_and_wait` is the statement SelectionTimeout.) -/
def Obligations.ReadyWaitBoundaryIsExact : Prop :=
  ∀ (s a b : State) (t : Nat) (es : List Event), s.cfg.wellFormed = true → t ≤ s.cfg.maxDuration → s.seqpos = [] →
    s.env.inbox = es → (∀ e ∈ es, e = .seq ∨ e = .tick) → (∀ x ∈ s.env.answers es.length, x ≠ 0xFF) →
    exec (.waitReady t) s = .next a → seqRun 1 a = .next b →
    ∃ v, Host.Core.run Sys2Proof.core es.length b = .next v ∧ ∃ w, v.wire = w ++ b.wire ∧
      (∀ w2 r w1, w = w2 ++ .expired r :: w1 →
        r = decide (t ≤ (w1.filter isTick).length) ∧ (r = true → ∀ e ∈ w2, e = .tick)) ∧
      (v.seqpos = [] → v.ret.ok = false ∧ .expired true ∈ w)

/-- R131: `select_and_wait(t)` on a card that becomes ready: it asserts chip-select, makes the dummy exchange whose byte `x` is
not tested, polls, and returns true with the card selected. -/
def Obligations.SelectAndWaitSucceeds : Prop :=
  ∀ (s : State) (t : Nat) (x : Byte) (busy : List Byte), t ≤ s.cfg.maxDuration → (busy = [] ∨ 0 < t) → (∀ b ∈ busy, b ≠ 0xFF) →
    s.env.answers (busy.length + 2) = x :: busy ++ [0xFF] →
    ∃ u, exec (.selectAndWait t) s = .next u ∧ pointRun (8 + 4 * busy.length) u = .next { s with
      csa := true
      tcount := t
      ret := { s.ret with byte := 0xFF, ok := true }
      env := s.env.afterAnswers (busy.length + 2)
      wire := .exch 0xFF 0xFF :: timedPolls busy ++ .arm t :: .exch 0xFF x :: .sel :: s.wire }

/-- R131: when the ready poll has failed, `select_and_wait` deselects by itself, with one exchange, and returns false. R152:
`send_command` then sets SELTO and returns 0xFF at once, with no exchange and no frame. -/
def Obligations.SelectionTimeout : Prop :=
  (∀ (s : State) (k : List Point), s.seqpos = .selected :: k → s.ret.ok = false →
    pointRun 5 s = .next { s with
      csa := false
      seqpos := k
      ret := { s.ret with byte := s.env.cardByte, ok := false }
      env := s.env.afterAnswer
      wire := .exch 0xFF s.env.cardByte :: .desel :: s.wire }) ∧
  (∀ (s : State) (idx : Index) (arg : Long) (k : List Point), s.seqpos = .commandSelected idx arg :: k →
    s.ret.ok = false →
    pointStep s = .next { s with selto := true, seqpos := k, ret := { s.ret with byte := 0xFF } })

/-! ## Command Framer -/

/-- R80, R153 and R154: each of the seven frame rows sends exactly its words, in order, and nothing else. The bytes received are
discarded, and nothing but the bus is touched. That a row executed alone sends its words, and that the STOP_TRANSMISSION row also
sends the filler of step 4, is the model's reading of the rows (log 15, DEDUCED). -/
def Obligations.FrameRowsSendTheirWords : Prop :=
  ∀ (s : State) (i : Instr) (bs : List Byte), encode s.cfg i = some (.frame, bs) →
    let out : List Byte := bs ++ fillersAfter i
    ∃ t, exec i s = .next t ∧ pointRun out.length t = .next { s with
      ret := { s.ret with byte := (s.env.answers out.length).getLastD 0 }
      env := s.env.afterAnswers out.length
      wire := exchanged out (s.env.answers out.length) ++ s.wire }

/-- R150, R152, R153, R155: `send_command` of a standard command other than STOP, to a card that becomes ready after the bytes
`busy` and then answers `bad`, all with bit 7 set, and `r`: the first byte with bit 7 clear, or the tenth byte. SELTO is
cleared; the card is deselected and selected again; the frame is sent; `r` is returned. -/
def Obligations.SendCommandStandard : Prop :=
  ∀ (s : State) (idx : Index) (arg : Long) (x y : Byte) (busy f bad : List Byte) (r : Byte),
    idx ≠ s.cfg.idxStop → s.cfg.tSelect ≤ s.cfg.maxDuration → (busy = [] ∨ 0 < s.cfg.tSelect) → (∀ b ∈ busy, b ≠ 0xFF) →
    f.length = 6 → (∀ b ∈ bad, b.getLsbD 7 = true) → bad.length ≤ 9 → (r.getLsbD 7 = false ∨ bad.length = 9) →
    s.env.answers (10 + busy.length + bad.length) = x :: y :: busy ++ 0xFF :: f ++ bad ++ [r] →
    ∃ t, exec (.sendCommand idx arg false) s = .next t ∧
      pointRun (23 + 4 * busy.length + 2 * bad.length) t = .next { s with
        selto := false
        csa := true
        tcount := s.cfg.tSelect
        npoll := BitVec.ofNat 4 (9 - bad.length)
        ret := { s.ret with byte := r, ok := true }
        env := s.env.afterAnswers (10 + busy.length + bad.length)
        wire := polled (bad ++ [r]) ++ exchanged (frameBytes s.cfg idx arg) f ++ .exch 0xFF 0xFF :: timedPolls busy ++
          .arm s.cfg.tSelect :: .exch 0xFF y :: .sel :: .exch 0xFF x :: .desel :: s.wire }

/-- R152 and R154: `send_command` of the stop-transmission command touches neither chip-select nor the timer, and discards one
more byte `z` before the response poll, even when its bit 7 is clear. -/
def Obligations.SendCommandStop : Prop :=
  ∀ (s : State) (arg : Long) (f bad : List Byte) (z r : Byte),
    f.length = 6 → (∀ b ∈ bad, b.getLsbD 7 = true) → bad.length ≤ 9 → (r.getLsbD 7 = false ∨ bad.length = 9) →
    s.env.answers (8 + bad.length) = f ++ z :: bad ++ [r] →
    ∃ t, exec (.sendCommand s.cfg.idxStop arg false) s = .next t ∧
      pointRun (11 + 2 * bad.length) t = .next { s with
        selto := false
        npoll := BitVec.ofNat 4 (9 - bad.length)
        ret := { s.ret with byte := r }
        env := s.env.afterAnswers (8 + bad.length)
        wire := polled (bad ++ [r]) ++ .exch 0xFF z :: exchanged (frameBytes s.cfg s.cfg.idxStop arg) f ++ s.wire }

/-- R151: an application command first runs the prefix command with argument 0 through the whole framer; a prefix response
above 1 is returned at once and no frame of the real command is sent; 0x00 or 0x01 goes on with the real command's own
selection. -/
def Obligations.ApplicationPrefixFirst : Prop :=
  (∀ (s : State) (idx : Index) (arg : Long),
    exec (.sendCommand idx arg true) s = .next { s with
      selto := false
      seqpos := .op (.sendCommand s.cfg.idxAppPrefix 0 false) :: .prefixed idx arg :: s.seqpos }) ∧
  (∀ (s : State) (idx : Index) (arg : Long) (k : List Point), s.seqpos = .prefixed idx arg :: k →
    pointStep s = .next { s with
      seqpos := if 1 < s.ret.byte.toNat then k else commandPoints s.cfg idx arg ++ k })

/-- R155: the response poll starts with NPOLL = 10 and a filler exchange. A byte with bit 7 clear (R1_VALID) ends the poll and
is returned, and so is the last byte when NPOLL reaches 0; otherwise one more filler is exchanged. NPOLL goes down by one each
time, and no timer is read. -/
def Obligations.ResponsePollStops : Prop :=
  (∀ (s : State) (k : List Point), s.seqpos = .pollStart :: k →
    pointStep s = .next { s with npoll := 10, seqpos := .op (.exchange 0xFF) :: .responsePoll :: k }) ∧
  ∀ (s : State) (k : List Point), s.seqpos = .responsePoll :: k →
    pointStep s = .next { s with
      npoll := s.npoll - 1
      seqpos := if s.ret.byte.getLsbD 7 = false ∨ s.npoll - 1 = 0 then k
        else .op (.exchange 0xFF) :: .responsePoll :: k } ∧
    (∀ flags, s.ret.byte = 0#1 ++ flags →
      exec (.r1Valid flags) s = .next { s with npoll := s.npoll - 1, seqpos := k })

/-- R156: `framer` is `send_command` and then LASTR1 <- r. -/
def Obligations.FramerRecordsTheResponse : Prop :=
  (∀ (s : State) (idx : Index) (arg : Long) (app : Bool),
    exec (.framer idx arg app) s = .next { s with seqpos := .op (.sendCommand idx arg app) :: .latchR1 :: s.seqpos }) ∧
  (∀ (s : State) (k : List Point), s.seqpos = .latchR1 :: k →
    pointStep s = .next { s with lastR1 := s.ret.byte, seqpos := k })

/-! ## Block Transfer Engine -/

/-- R180 to R183 and R64: `receive_block(t)` on a card that sends k bytes 0xFF, the start token 0xFE, 512 payload bytes and two
trailer bytes, all of any value, with no tick: it returns (true, 0xFE) after exactly k + 515 exchanges of 0xFF, the j-th
payload byte stands in BUF[j-1], and nothing else of BUF or of the block changes. -/
def Obligations.ReceiveBlockStoresPayload : Prop :=
  ∀ (s : State) (t k : Nat), t ≤ s.cfg.maxDuration → (k = 0 ∨ 0 < t) →
    s.env.answers (k + 1) = List.replicate k 0xFF ++ [0xFE] →
    ∃ u, exec (.receiveBlock t) s = .next u ∧ ∃ v, pointRun (1543 + 4 * k) u = .next v ∧
      v = { s with
        tcount := t
        bidx := 512
        ret := { s.ret with byte := 0xFE, ok := true }
        buf := v.buf
        env := s.env.afterAnswers (k + 515)
        wire := polled ((s.env.answers (k + 515)).drop k) ++ timedPolls (List.replicate k 0xFF) ++
          .arm t :: s.wire } ∧
      v.bufBytes = ((s.env.answers (k + 515)).drop (k + 1)).take 512 ∧
      ∀ a, 512 ≤ a → v.bufRead a = s.bufRead a

/-- R88, R181 and R184: the start-token poll. 0xFE ends it and starts the payload at BUF[0], as the operation
START_TOKEN_READ, with no read of the timer. A byte other than 0xFF and 0xFE ends the poll and the read at once, and 0xFF ends
it only when TCOUNT is 0 at the read of `Expired()` that follows; in both cases the result is false with that byte, and BUF
is untouched. Otherwise the poll goes on. -/
def Obligations.TokenPollEnds : Prop :=
  ∀ (s : State) (k : List Point), s.seqpos = .tokenPoll :: k →
    exec .startTokenRead s = .next { s with bidx := 0, seqpos := .payloadIn :: k } ∧
    (s.ret.byte = 0xFE → pointStep s = exec .startTokenRead s) ∧
    (s.ret.byte ≠ 0xFF → s.ret.byte ≠ 0xFE →
      pointStep s = .next { s with seqpos := k, ret := { s.ret with ok := false } }) ∧
    (s.ret.byte = 0xFF → pointRun 3 s = .next { s with
      ret := { s.ret with ok := false }
      seqpos := if s.tcount = 0 then k else .op (.exchange 0xFF) :: .tokenPoll :: k
      wire := .expired (s.tcount == 0) :: s.wire })

/-- R185, R187 to R190: `send_block` of any token but the stop token, to a card that becomes ready after the bytes `busy`, with
no tick: the token, BUF[0] to BUF[511] in ascending order, two fillers and one more filler that reads the data response; it
returns true exactly when the response's low five bits are 00101, together with the response; BUF is not written. -/
def Obligations.SendBlockSendsBuf : Prop :=
  ∀ (s : State) (token : Byte) (busy : List Byte), 500 ≤ s.cfg.maxDuration → (∀ b ∈ busy, b ≠ 0xFF) →
    token ≠ s.cfg.stopToken → s.env.answers (busy.length + 1) = busy ++ [0xFF] →
    let inp := (s.env.answers (busy.length + 517)).drop (busy.length + 1)
    let resp : Byte := inp.getLastD 0
    let row := if token = s.cfg.dataTokenWrite then 1 else 0
    ∃ u, exec (.sendBlock token) s = .next u ∧ pointRun (1548 + row + 4 * busy.length) u = .next { s with
      tcount := 500
      bidx := 512
      ret := { s.ret with byte := resp, ok := decide (resp &&& 0x1F = 0x05) }
      env := s.env.afterAnswers (busy.length + 517)
      wire := exchanged (token :: s.bufBytes ++ [0xFF, 0xFF, 0xFF]) inp ++ .exch 0xFF 0xFF ::
        timedPolls busy ++ .arm 500 :: s.wire }

/-- DATA_TOKEN_WRITE (R187) and DATA_RESP_ACCEPT (R190), each on its own: the token is one exchange with the payload to
follow from BUF[0], and an accepting data response returns true with that byte; any other data response returns false. That the
token's row executed alone makes no ready-wait and goes on so is the model's choice (log 30). -/
def Obligations.WriteTokenAndDataResponse : Prop :=
  (∀ s : State, ∃ t, exec .dataTokenWrite s = .next t ∧ pointRun 2 t = .next { s with
    bidx := 0
    seqpos := .payloadOut :: s.seqpos
    ret := { s.ret with byte := s.env.cardByte }
    env := s.env.afterAnswer
    wire := .exch s.cfg.dataTokenWrite s.env.cardByte :: s.wire }) ∧
  (∀ (s : State) (k : List Point), s.seqpos = .dataResponse :: k →
    pointStep s = .next { s with
      seqpos := k, ret := { s.ret with ok := decide (s.ret.byte &&& 0x1F = 0x05) } } ∧
    ∀ high : BitVec 3, s.ret.byte = high ++ 0b00101#5 →
      exec (.dataRespAccept high) s = .next { s with seqpos := k, ret := { s.ret with ok := true } })

/-- R186: when the ready-wait of `send_block` has failed, it sets SELTO and returns (false, 0xFF) with no token sent and CSA as
it was. R191: with the stop token it makes the ready-wait and one token exchange, then returns (true, 0xFF). That the row
STOP_TOKEN executed alone is that exchange and that return, with no ready-wait, is the model's choice (log 30). -/
def Obligations.SendBlockTimeoutAndStopToken : Prop :=
  (∀ (s : State) (token : Byte) (k : List Point), s.seqpos = .blockReady token :: k → s.ret.ok = false →
    pointStep s = .next { s with selto := true, seqpos := k, ret := { s.ret with byte := 0xFF, ok := false } }) ∧
  (∀ s : State, ∃ t, exec .stopToken s = .next t ∧ pointRun 2 t = .next { s with
    ret := { s.ret with byte := 0xFF, ok := true }
    env := s.env.afterAnswer
    wire := .exch s.cfg.stopToken s.env.cardByte :: s.wire }) ∧
  (∀ (s : State) (k : List Point), s.seqpos = .blockReady s.cfg.stopToken :: k → s.ret.ok = true →
    pointStep s = .next { s with seqpos := .op .stopToken :: k })

/-- R193: the round trip. From any state `s`, sending a block puts the bytes of BUF on the wire after the token; a card that
answers those 512 bytes after the start token of a later read, whatever state `r` that read runs in and whatever the card sends
next, leaves them in BUF. The block is sent and read from the token on, by the rows of the two tokens (logs 14 and 30). -/
def Obligations.BlockRoundTrip : Prop :=
  ∀ (s r : State) (rest : List Byte),
    ∃ u v w, exec .dataTokenWrite s = .next u ∧ pointRun 1543 u = .next v ∧ v.wire = w ++ s.wire ∧
      let echo : List Byte := ((sentBytes w).drop 1).take 512
      ∃ p q, exec .startTokenRead { r with env := { r.env with card := echo ++ rest } } = .next p ∧
        pointRun 1540 p = .next q ∧ (∀ a, a < 512 → q.bufRead a = s.bufRead a) ∧ ∀ a, 512 ≤ a → q.bufRead a = r.bufRead a

/-! ## Card Initializer -/

/-- R213: the power-up wait arms T_POWERUP, reads `Expired()` until it is true, and makes no exchange and no chip-select change.
Where INITIALIZE calls it, with k ticks before its first read of `Expired()`: it ends at that read exactly when T_POWERUP ≤ k, and
the first go-idle attempt follows; otherwise it reads again. -/
def Obligations.PowerUpWaitCountsTicks : Prop :=
  (∀ s : State, exec .powerUpWait s = .next { s with
    seqpos := .op (.arm s.cfg.tPowerup) :: .op .expired :: .powerTest :: s.seqpos }) ∧
  (∀ (s : State) (k : List Point), s.seqpos = .powerTest :: k →
    pointStep s = .next { s with seqpos := if s.ret.ok then k else .op .expired :: .powerTest :: k }) ∧
  ∀ (s a : State) (k : Nat), s.cfg.wellFormed = true → s.seqpos = [.firstAttempt] →
    s.env.inbox = .seq :: List.replicate k .tick ++ [.seq] → exec .powerUpWait s = .next a →
    let ended := decide (s.cfg.tPowerup ≤ k)
    Host.Core.run Sys2Proof.core (k + 2) a = .next ({ s with
      tcount := s.cfg.tPowerup - k
      attempt := if ended then 1 else s.attempt
      ret := { s.ret with ok := ended }
      seqpos := if ended then [.setCS false, .dummyStart, .op (.framer s.cfg.idxGoIdle s.cfg.goIdleArg false), .goIdleTest]
        else [.op .expired, .powerTest, .firstAttempt]
      env := { s.env with inbox := [] }
      wire := .expired ended :: List.replicate k .tick ++ .arm s.cfg.tPowerup :: s.wire } : State)

/-- R214: the dummy block deasserts chip-select with no exchange and then makes exactly ten filler exchanges. -/
def Obligations.DummyBlockClocksTenBytes : Prop :=
  ∀ s : State, ∃ t, exec .initDummyBlock s = .next t ∧ pointRun 22 t = .next { s with
    csa := false
    ndummy := 0
    ret := { s.ret with byte := (s.env.answers 10).getLastD 0 }
    env := s.env.afterAnswers 10
    wire := polled (s.env.answers 10) ++ .desel :: s.wire }

/-- R215, R216 and R217: at the test of a go-idle response, 0x01 (R1_IDLE) makes the card Idle and completes with 0, the
card still selected; any other byte is another attempt, with ATTEMPT one higher, unless ATTEMPT is 255; then the card is in
Error with the code 0x0100 | r, and after `release()` RESULT is -ERRCODE, with SPEED as it was. -/
def Obligations.GoIdleAttempts : Prop :=
  ∀ (s : State), s.seqpos = [.goIdleTest] →
    (s.ret.byte = 0x01 →
      exec .r1Idle s = .next { s with cardState := .idle, seqpos := [.op (.complete 0)] } ∧
      pointRun 2 s = .next { s with
        cardState := .idle, seqpos := [], busy := false, win := { s.win with result := 0 } }) ∧
    (s.ret.byte ≠ 0x01 → s.attempt ≠ 255 →
      pointStep s = .next { s with
        attempt := s.attempt + 1
        seqpos := [.op .initDummyBlock, .op (.framer s.cfg.idxGoIdle s.cfg.goIdleArg false), .goIdleTest] }) ∧
    (s.ret.byte ≠ 0x01 → s.attempt = 255 →
      pointRun 6 s = .next { s with
        cardState := .error (0x01#8 ++ s.ret.byte)
        csa := false
        seqpos := []
        busy := false
        win := { s.win with result := -(0x01#8 ++ s.ret.byte) }
        ret := { s.ret with byte := s.env.cardByte }
        env := s.env.afterAnswer
        wire := .exch 0xFF s.env.cardByte :: .desel :: s.wire })

/-- R211 and R212: INITIALIZE, in every CARDSTATE, sets CARDSTATE to Uninitialized, ERRCODE to 0 and BYTEADDR to 0, and sets the
slow clock first; then the power-up wait begins (R213). BUF, RESP, RESULT and OVR are not touched (R311); the latch takes the
operands at the issue, as R240 says of every host operation, and R311's 'latched operands' are read as the operand registers
(log 29). After the power-up wait ATTEMPT is 1 and the first attempt begins with its dummy block (R215). -/
def Obligations.InitializeStarts : Prop :=
  (∀ s : State, s.busy = false →
    ∃ t, exec .hostInitialize s = .next t ∧ t.settle = .next t ∧ seqRun 1 t = .next { s with
      cardState := .uninitialized
      byteAddr := false
      speed := .slow
      busy := true
      lat := s.win.operands
      seqpos := [.op (.arm s.cfg.tPowerup), .op .expired, .powerTest, .firstAttempt]
      wire := .speed .slow :: s.wire }) ∧
  (∀ (s : State) (k : List Point), s.seqpos = .firstAttempt :: k → pointStep s = .next { s with
    attempt := 1
    seqpos := .op .initDummyBlock :: .op (.framer s.cfg.idxGoIdle s.cfg.goIdleArg false) :: .goIdleTest :: k })

/-- R219 and R248: FINISH in Idle with OK = 1 and LASTR1 = 0x00: BYTEADDR takes FIN.BA, the card is Ready, the clock is fast, the
card is released, and the result is 0. After the CTRL write it is three steps of SEQ: the clock, the line, the exchange. -/
def Obligations.FinishMakesReady : Prop :=
  ∀ s : State, s.busy = false → s.cardState = .idle → s.win.fin.getLsbD 0 = true → s.lastR1 = 0x00 →
    ∃ t, exec .hostFinish s = .next t ∧ ∃ u, t.settle = .next u ∧ seqRun 3 u = .next { s with
      cardState := .ready
      byteAddr := s.win.fin.getLsbD 1
      speed := .fast
      csa := false
      lat := s.win.operands
      seqpos := []
      win := { s.win with result := 0 }
      ret := { s.ret with byte := s.env.cardByte }
      env := s.env.afterAnswer
      wire := .exch 0xFF s.env.cardByte :: .desel :: .speed .fast :: s.wire }

/-- R220 and R248: FINISH in Idle with OK = 0 ends in Error with the code 0x0800 | DETAIL, and with OK = 1 and LASTR1 other than
0x00 with 0x0C00 | LASTR1; the card is released, RESULT is -ERRCODE, and SPEED and BYTEADDR stay. After the CTRL write it is two
steps of SEQ: the line and the exchange. -/
def Obligations.FinishFails : Prop :=
  ∀ s : State, s.busy = false → s.cardState = .idle → (s.win.fin.getLsbD 0 = false ∨ s.lastR1 ≠ 0x00) →
    let code : Half := if s.win.fin.getLsbD 0 then 0x0C#8 ++ s.lastR1 else 0x08#8 ++ s.win.fin.extractLsb' 8 8
    ∃ t, exec .hostFinish s = .next t ∧ ∃ u, t.settle = .next u ∧ seqRun 2 u = .next { s with
      cardState := .error code
      csa := false
      lat := s.win.operands
      seqpos := []
      win := { s.win with result := -code }
      ret := { s.ret with byte := s.env.cardByte }
      env := s.env.afterAnswer
      wire := .exch 0xFF s.env.cardByte :: .desel :: s.wire }

/-- R1_READY on its own: at FINISH's test it makes the card Ready with the latched BA (R219), at READ_SECTOR's test it goes on
to `receive_block` (R243), at WRITE_SECTOR's test to `send_block` (R245), and SEQ runs it at each of them exactly when the
response is 0x00. -/
def Obligations.ReadyResponseGoesOn : Prop :=
  ∀ (s : State) (k : List Point),
    (s.seqpos = .finishVerdict :: k →
      exec .r1Ready s = .next { s with
        cardState := .ready
        byteAddr := s.lat.ba
        seqpos := .op (.setSpeed .fast) :: .op .release :: .op (.complete 0) :: k } ∧
      (s.lastR1 = 0x00 ↔ s.seqInstr? = some .r1Ready)) ∧
    (s.seqpos = .readCommand :: k →
      exec .r1Ready s = .next { s with seqpos := .op (.receiveBlock s.cfg.tRead) :: .readReceived :: k } ∧
      (s.ret.byte = 0x00 ↔ s.seqInstr? = some .r1Ready)) ∧
    (s.seqpos = .writeCommand :: k →
      exec .r1Ready s = .next { s with seqpos := .op (.sendBlock s.cfg.dataTokenWrite) :: .writeSent :: k } ∧
      (s.ret.byte = 0x00 ↔ s.seqInstr? = some .r1Ready))

/-- The rows of received bytes where SEQPOS is not at their own test (the model's choice, log 14): the RESP8 rows return the byte
to the caller, with the write of NPOLL or of the Boolean that the test's branch makes, and SEQPOS stays; START_TOKEN_READ returns
no byte and starts the payload loop before SEQPOS. -/
def Obligations.ResponsesOutsideTheirTests : Prop :=
  ∀ s : State,
    (s.seqpos.head? ≠ some .responsePoll → ∀ flags,
      exec (.r1Valid flags) s = .next { s with npoll := s.npoll - 1, ret := { s.ret with byte := 0#1 ++ flags } }) ∧
    (s.seqpos.head? ≠ some .goIdleTest → exec .r1Idle s = .next { s with ret := { s.ret with byte := 0x01 } }) ∧
    (s.seqpos.head? ∉ [some .finishVerdict, some .readCommand, some .writeCommand] →
      exec .r1Ready s = .next { s with ret := { s.ret with byte := 0x00 } }) ∧
    (s.seqpos.head? ≠ some .dataResponse → ∀ high : BitVec 3,
      exec (.dataRespAccept high) s = .next { s with ret := { s.ret with byte := high ++ 0b00101#5, ok := true } }) ∧
    (s.seqpos.head? ≠ some .readyPoll →
      exec .cardReadyIdleByte s = .next { s with ret := { s.ret with byte := 0xFF, ok := true } }) ∧
    (s.seqpos.head? ≠ some .tokenPoll →
      exec .startTokenRead s = .next { s with bidx := 0, seqpos := .payloadIn :: s.seqpos })

/-! ## Host operations -/

/-- R250: a reserved op code makes no bus activity and completes with BAD_OP, -(0x0A00 | OP). R240's latch takes the operands at
the issue, as for every CTRL write; nothing else but RESULT changes, and the operation is over when the CTRL write's step ends
(the model's reading, log 20). -/
def Obligations.ReservedOpsAreBadOp : Prop :=
  ∀ s : State, s.busy = false →
    let after (code : Half) : State := { s with
      lat := s.win.operands, seqpos := [], win := { s.win with result := -code } }
    (∃ t, exec .hostReserved0 s = .next t ∧ t.settle = .next (after 0x0A00)) ∧
    (∃ t, exec .hostReserved7 s = .next t ∧ t.settle = .next (after 0x0A07))

/-- READ_SECTOR and WRITE_SECTOR outside Ready complete with NOT_READY, -(0x0700 | CARDSTATE), and SEND_COMMAND, EXCHANGE and
FINISH outside Idle with BAD_STATE, -(0x0B00 | CARDSTATE), with no bus activity and CSA as it stood (R243, R245 to R248); the
latch takes the operands (R240), and the operation is over when the CTRL write's step ends (log 25). -/
def Obligations.WrongStateIsRefused : Prop :=
  ∀ s : State, s.busy = false →
    let after (cls : Byte) : State := { s with
      lat := s.win.operands
      seqpos := []
      win := { s.win with result := -(cls ++ (0#6 ++ s.cardState.code)) } }
    (s.cardState ≠ .ready → ∀ i ∈ [Instr.hostReadSector, .hostWriteSector],
      ∃ t, exec i s = .next t ∧ t.settle = .next (after 0x07)) ∧
    (s.cardState ≠ .idle → ∀ i ∈ [Instr.hostSendCommand, .hostExchange, .hostFinish],
      ∃ t, exec i s = .next t ∧ t.settle = .next (after 0x0B))

/-- R244 at BYTE_SCALE 512: with BYTEADDR = 0 the argument is the sector index; with BYTEADDR = 1 it is the index times 512, and
an index of 2^23 or more raises RANGE, 0x0900, with no bus activity. -/
def Obligations.SectorArgument : Prop :=
  ∀ (s : State) (sector : Long), s.cfg.byteShift = 9 →
    (s.byteAddr = false → exec (.sectorArg sector) s = .next { s with ret := { s.ret with arg := sector } }) ∧
    (s.byteAddr = true → sector.toNat < 2 ^ 23 → ∃ a : Long, a.toNat = sector.toNat * 512 ∧
      exec (.sectorArg sector) s = .next { s with ret := { s.ret with arg := a } }) ∧
    (s.byteAddr = true → 2 ^ 23 ≤ sector.toNat → ∃ t, exec (.sectorArg sector) s = .next t ∧
      pointRun 1 t = .next { s with seqpos := [], busy := false, win := { s.win with result := -0x0900 } })

/-- R243 and R252: READ_SECTOR in Ready, in either addressing mode with the sector in range, on a card that becomes ready after
the bytes `busy`, answers the command with 0x00 after the bytes `bad`, sends k bytes 0xFF and the start token, and then 512
payload bytes, two trailer bytes and one byte more, all of any value, with no tick. The whole next state: RESULT is 0, the payload
stands in BUF, the card is released, CARDSTATE is still Ready, one read frame was sent with the sector's argument, and SEQ made
exactly one step for each event. -/
def Obligations.ReadSectorDelivers : Prop :=
  ∀ (s : State) (x y : Byte) (busy f bad : List Byte) (k : Nat),
    let sector : Long := s.win.sectorHi ++ s.win.sectorLo
    let arg := if s.byteAddr then byteArg s.cfg sector else sector
    let n := 11 + busy.length + bad.length + k
    s.cfg.wellFormed = true → (busy = [] ∨ 0 < s.cfg.tSelect) → (k = 0 ∨ 0 < s.cfg.tRead) →
    s.cfg.idxReadSingle ≠ s.cfg.idxStop → s.busy = false → s.cardState = .ready →
    (s.byteAddr = true → sector.toNat < sectorLimit s.cfg) →
    (∀ b ∈ busy, b ≠ 0xFF) → f.length = 6 → (∀ b ∈ bad, b.getLsbD 7 = true) → bad.length ≤ 9 →
    s.env.answers n = x :: y :: busy ++ 0xFF :: f ++ bad ++ 0x00 :: List.replicate k 0xFF ++ [0xFE] →
    ∃ t, exec .hostReadSector s = .next t ∧ ∃ u, t.settle = .next u ∧
      ∃ v, seqRun (531 + 2 * busy.length + bad.length + 2 * k) u = .next v ∧
        v = { s with
          tcount := s.cfg.tRead
          csa := false
          selto := false
          lastR1 := 0x00
          npoll := BitVec.ofNat 4 (9 - bad.length)
          bidx := 512
          seqpos := []
          ret := { s.ret with byte := (s.env.answers (n + 515)).getLastD 0, ok := true, arg := arg }
          win := { s.win with result := 0 }
          lat := s.win.operands
          buf := v.buf
          env := s.env.afterAnswers (n + 515)
          wire := .exch 0xFF ((s.env.answers (n + 515)).getLastD 0) :: .desel ::
            polled ((s.env.answers (n + 514)).drop (n - 1)) ++ timedPolls (List.replicate k 0xFF) ++
            .arm s.cfg.tRead :: polled (bad ++ [0x00]) ++ exchanged (frameBytes s.cfg s.cfg.idxReadSingle arg) f ++
            .exch 0xFF 0xFF :: timedPolls busy ++ .arm s.cfg.tSelect ::
            .exch 0xFF y :: .sel :: .exch 0xFF x :: .desel :: s.wire } ∧
        v.bufBytes = (s.env.answers (n + 512)).drop n ∧ ∀ a, 512 ≤ a → v.bufRead a = s.bufRead a

/-- R245 and R252: WRITE_SECTOR in Ready, in either addressing mode with the sector in range, on a card that becomes ready after
the bytes `busy` at the selection and after the bytes `slow` at the ready-wait and answers the command with 0x00 after the bytes
`bad`, with no tick. The whole next state: the block is sent from BUF after one write frame with the sector's argument, RESULT is
0 when the data response's low five bits are 00101 and -(0x0600 | resp) otherwise, the card is released, CARDSTATE is still Ready,
BUF is unchanged, and SEQ made exactly one step for each event. -/
def Obligations.WriteSectorSendsOrRejects : Prop :=
  ∀ (s : State) (x y : Byte) (busy f bad slow : List Byte),
    let sector : Long := s.win.sectorHi ++ s.win.sectorLo
    let arg := if s.byteAddr then byteArg s.cfg sector else sector
    let n := 11 + busy.length + bad.length + slow.length
    let resp : Byte := (s.env.answers (n + 516)).getLastD 0
    s.cfg.wellFormed = true → (busy = [] ∨ 0 < s.cfg.tSelect) → s.cfg.idxWriteSingle ≠ s.cfg.idxStop →
    s.cfg.dataTokenWrite ≠ s.cfg.stopToken → s.busy = false → s.cardState = .ready →
    (s.byteAddr = true → sector.toNat < sectorLimit s.cfg) →
    (∀ b ∈ busy, b ≠ 0xFF) → (∀ b ∈ slow, b ≠ 0xFF) → f.length = 6 → (∀ b ∈ bad, b.getLsbD 7 = true) → bad.length ≤ 9 →
    s.env.answers n = x :: y :: busy ++ 0xFF :: f ++ bad ++ 0x00 :: slow ++ [0xFF] →
    ∃ t, exec .hostWriteSector s = .next t ∧ ∃ u, t.settle = .next u ∧
      seqRun (533 + 2 * busy.length + bad.length + 2 * slow.length) u = .next { s with
        tcount := 500
        csa := false
        selto := false
        lastR1 := 0x00
        npoll := BitVec.ofNat 4 (9 - bad.length)
        bidx := 512
        seqpos := []
        ret := { s.ret with
          byte := (s.env.answers (n + 517)).getLastD 0, ok := decide (resp &&& 0x1F = 0x05), arg := arg }
        win := { s.win with result := if resp &&& 0x1F = 0x05 then 0 else -(0x06#8 ++ resp) }
        lat := s.win.operands
        env := s.env.afterAnswers (n + 517)
        wire := .exch 0xFF ((s.env.answers (n + 517)).getLastD 0) :: .desel ::
          exchanged (s.cfg.dataTokenWrite :: s.bufBytes ++ [0xFF, 0xFF, 0xFF]) ((s.env.answers (n + 516)).drop n) ++
          .exch 0xFF 0xFF :: timedPolls slow ++ .arm 500 :: polled (bad ++ [0x00]) ++
          exchanged (frameBytes s.cfg s.cfg.idxWriteSingle arg) f ++ .exch 0xFF 0xFF :: timedPolls busy ++
          .arm s.cfg.tSelect :: .exch 0xFF y :: .sel :: .exch 0xFF x :: .desel :: s.wire }

/-- R253: classify(r) is 0x0200 when SELTO = 1, else 0x0300 | r when bit 7 of r is set, else 0x0400 | r. R243, R245, R252: a
response r other than 0x00 to the read or write command releases the card with one exchange and completes with -classify(r).
CARDSTATE and BUF stay. -/
def Obligations.RefusedResponseIsClassified : Prop :=
  ∀ (s : State) (r : Byte),
    let code : Half := if s.selto then 0x0200 else if r.getLsbD 7 then 0x03#8 ++ r else 0x04#8 ++ r
    exec (.classify r) s = .next { s with ret := { s.ret with code := code } } ∧
    ((s.seqpos = [.readCommand] ∨ s.seqpos = [.writeCommand]) → s.ret.byte = r → r ≠ 0x00 →
      pointRun 8 s = .next { s with
        csa := false
        seqpos := []
        busy := false
        win := { s.win with result := -code }
        ret := { s.ret with byte := s.env.cardByte, code := code }
        env := s.env.afterAnswer
        wire := .exch 0xFF s.env.cardByte :: .desel :: s.wire })

/-- R243, R245, R252: after the transfer the card is released with one exchange and the operation completes: with 0 when the
transfer succeeded; else READ_SECTOR with -(0x0500 | tok), and WRITE_SECTOR with -0x0201 when SELTO = 1 and -(0x0600 | resp)
otherwise. CARDSTATE and BUF stay. -/
def Obligations.TransferResultIsReported : Prop :=
  ∀ (s : State) (write : Bool), s.seqpos = [if write then .writeSent else .readReceived] →
    let code : Half := if s.ret.ok then 0 else if write then (if s.selto then 0x0201 else 0x06#8 ++ s.ret.byte)
      else 0x05#8 ++ s.ret.byte
    pointRun 7 s = .next { s with
      csa := false
      seqpos := []
      busy := false
      win := { s.win with result := -code }
      ret := { s.ret with byte := s.env.cardByte }
      env := s.env.afterAnswer
      wire := .exch 0xFF s.env.cardByte :: .desel :: s.wire }

/-- R247: EXCHANGE in Idle is one step of SEQ, one raw exchange of XDATA.OUT with chip-select untouched; RESP takes the byte
received, and the operation is complete when that step ends. R246:
SEND_COMMAND in Idle calls `framer` with the latched INDEX, ARG and APP, and then RESP takes its result and the operation
completes with 0, whatever the card answered, with no release. -/
def Obligations.NegotiatorOperations : Prop :=
  (∀ s : State, s.busy = false → s.cardState = .idle →
    ∃ t, exec .hostExchange s = .next t ∧ t.settle = .next t ∧ seqRun 1 t = .next { s with
      lat := s.win.operands
      seqpos := []
      win := { s.win with resp := 0#8 ++ s.env.cardByte, result := 0 }
      ret := { s.ret with byte := s.env.cardByte }
      env := s.env.afterAnswer
      wire := .exch (s.win.xdata.extractLsb' 0 8) s.env.cardByte :: s.wire }) ∧
  (∀ s : State, s.busy = false → s.cardState = .idle →
    exec .hostSendCommand s = .next { s with
      busy := true
      lat := s.win.operands
      seqpos := [.op (.framer (s.win.cmd.extractLsb' 0 6) (s.win.argHi ++ s.win.argLo) (s.win.cmd.getLsbD 6)), .respond] }) ∧
  (∀ s : State, s.seqpos = [.respond] → pointRun 2 s = .next { s with
    seqpos := [], busy := false, win := { s.win with resp := 0#8 ++ s.ret.byte, result := 0 } })

/-- R249 and R35: the status read returns STATUS and ERRCODE, at any time, and changes nothing else; STATUS shows BUSY, OVR, CSA,
SPEED, BYTEADDR, CARDSTATE and SELTO at their bits, and 0 in bits 15:8. That the two registers are read in one step is the model's
choice (log 26). -/
def Obligations.StatusReadShowsTheState : Prop :=
  ∀ s : State, ∃ st : Half,
    exec .statusRead s = .next { s with hostData := [st, s.errcode] } ∧ s.regRead 0x002 = st ∧
    st.getLsbD 0 = s.busy ∧ st.getLsbD 1 = s.ovr ∧ st.getLsbD 2 = s.csa ∧ st.getLsbD 3 = decide (s.speed = .fast) ∧
    st.getLsbD 4 = s.byteAddr ∧ st.extractLsb' 5 2 = s.cardState.code ∧ st.getLsbD 7 = s.selto ∧
    st.extractLsb' 8 8 = 0

/-- Where the machine stops, and how it is named: a configuration with a duration that TCOUNT does not hold, or with T_POWERUP
below 1, is refused (R113, R8), a host access outside the window and a store to BUF beyond its 512 bytes fault, and a placed word
that no row matches is refused (the model's choices, logs 11, 12, 13 and 16). -/
def Obligations.WhereTheMachineStops : Prop :=
  ∀ s : State,
    ((∃ d ∈ [s.cfg.tSelect, s.cfg.tRead, 500, s.cfg.tPowerup], s.cfg.maxDuration < d) ∨ s.cfg.tPowerup = 0 →
      step s = .refused .illFormedConfig) ∧
    (∀ addr, addr < s.cfg.base ∨ s.cfg.base + 0x400 ≤ addr →
      hostReadAt addr s = .fault (.outsideWindow addr) ∧ ∀ v, hostWrite addr v s = .fault (.outsideWindow addr)) ∧
    (∀ k, s.seqpos = .storeByte :: k → 512 ≤ s.bidx.toNat → pointStep s = .fault (.bufOutOfRange s.bidx.toNat)) ∧
    (∀ nbits w k, s.seqpos = .word nbits w :: k → decodeTableWord nbits w = none →
      ∃ e, pointStep s = .refused (.undecodable e))

/-- R241: while BUSY = 1 a host write to CTRL, to an operand register or to BUF changes nothing except setting OVR. -/
def Obligations.OverrunSetsOvrOnly : Prop :=
  ∀ (s : State) (off : Nat) (v : Half) (evs : List Event), s.cfg.wellFormed = true → s.busy = true →
    (off ∈ [0x000, 0x004, 0x006, 0x008, 0x00A, 0x00C, 0x00E, 0x010] ∨ (0x200 ≤ off ∧ off < 0x400)) →
    s.env.inbox = .hostWrite (s.cfg.base + off) v :: evs →
    step s = .next { s with ovr := true, env := { s.env with inbox := evs } }

/-- R33 to R39, R42, R67, as moves of the machine. While BUSY = 0 a host write of an operand register is read back with its
reserved bits 0, and every other register, BUF and the rest of the block stay. A write to a read-only register, an odd offset or a
reserved offset changes nothing, and a write to STATUS clears OVR exactly when bit 1 is set, whatever BUSY is. A read returns the
register: CTRL, odd offsets and reserved offsets read 0, RESP, RESULT and ERRCODE what they hold. -/
def Obligations.RegisterWindow : Prop :=
  ∀ (s : State) (v : Half) (evs : List Event), s.cfg.wellFormed = true →
    let rest : State := { s with env := { s.env with inbox := evs } }
    (s.busy = false → ∀ e ∈ [(0x004, 0xFFFF#16), (0x006, 0xFFFF#16), (0x008, 0x007F#16), (0x00A, 0xFFFF#16),
        (0x00C, 0xFFFF#16), (0x00E, 0x00FF#16), (0x010, 0xFF03#16)],
      s.env.inbox = .hostWrite (s.cfg.base + e.1) v :: .hostRead (s.cfg.base + e.1) :: evs →
      ∃ t, Host.Core.run Sys2Proof.core 2 s = .next t ∧ t = { rest with win := t.win, hostData := [v &&& e.2] } ∧
        ∀ off, off ≠ e.1 → t.regRead off = s.regRead off) ∧
    (∀ off, off < 0x200 → off ∈ [0x012, 0x014, 0x016] ∨ off % 2 = 1 ∨ 0x018 ≤ off →
      s.env.inbox = .hostWrite (s.cfg.base + off) v :: evs → step s = .next rest) ∧
    (s.env.inbox = .hostWrite (s.cfg.base + 0x002) v :: evs →
      step s = .next { rest with ovr := s.ovr && !v.getLsbD 1 }) ∧
    (∀ off, off < 0x200 → s.env.inbox = .hostRead (s.cfg.base + off) :: evs →
      step s = .next { rest with hostData := [s.regRead off] }) ∧
    s.regRead 0x000 = 0 ∧ s.regRead 0x012 = s.win.resp ∧ s.regRead 0x014 = s.win.result ∧ s.regRead 0x016 = s.errcode ∧
    (∀ off, off % 2 = 1 ∨ 0x018 ≤ off → s.regRead off = 0)

/-- R72: while BUSY = 0 a host write of a byte of BUF stores it there and a host read returns it; while BUSY = 1 a host read of
BUF returns a free byte and changes nothing of the block. That a 16-bit value stores its bits 7:0 and is read back with zeros above
is the model's choice (log 10). Run as moves of the machine. -/
def Obligations.HostOwnsBufWhileIdle : Prop :=
  ∀ (s : State) (a : Nat) (v : Half), s.cfg.wellFormed = true → a < 512 →
    (s.busy = false →
      s.env.inbox = [.hostWrite (s.cfg.base + 0x200 + a) v, .hostRead (s.cfg.base + 0x200 + a)] →
      ∃ t, Host.Core.run Sys2Proof.core 2 s = .next t ∧
        t = { s with buf := t.buf, hostData := [0#8 ++ v.extractLsb' 0 8], env := { s.env with inbox := [] } } ∧
        t.bufRead a = v.extractLsb' 0 8 ∧ ∀ b, b ≠ a → t.bufRead b = s.bufRead b) ∧
    (s.busy = true → s.env.inbox = [.hostRead (s.cfg.base + 0x200 + a)] →
      step s = .next { s with
        hostData := [0#8 ++ Config.freeHostByte s.env.hostDraws]
        env := { s.env with inbox := [], hostDraws := s.env.hostDraws + 1 } })

/-- R282 and R283: `complete(res)` writes RESULT, clears BUSY and makes SEQPOS IDLE, and nothing else; `raise OpError(code)`,
from anywhere in an operation's pseudocode, ends with `complete(-code)` and changes nothing of its own. -/
def Obligations.CompleteAndRaise : Prop :=
  ∀ s : State,
    (∀ res, exec (.complete res) s = .next { s with
      win := { s.win with result := res }, busy := false, seqpos := [] }) ∧
    (∀ code, pointRun 1 (s.raiseOpError code) = .next { s with
      win := { s.win with result := BitVec.ofNat 16 (2 ^ 16 - code.toNat) }, busy := false, seqpos := [] })

/-- READ_SECTOR and WRITE_SECTOR in Ready start with `sector_arg` of the latched sector, and then call `framer` with the read or
the write index (R240, R243, R245). -/
def Obligations.SectorOperationsStart : Prop :=
  ∀ s : State, s.busy = false → s.cardState = .ready →
    (s.byteAddr = true → (s.win.sectorHi ++ s.win.sectorLo).toNat < sectorLimit s.cfg) →
    let sector : Long := s.win.sectorHi ++ s.win.sectorLo
    let arg := if s.byteAddr then byteArg s.cfg sector else sector
    let after (idx : Index) (p : Point) : State := { s with
      busy := true
      lat := s.win.operands
      ret := { s.ret with arg := arg }
      seqpos := [.op (.framer idx arg false), p] }
    (∃ t, exec .hostReadSector s = .next t ∧ pointRun 2 t = .next (after s.cfg.idxReadSingle .readCommand)) ∧
    (∃ t, exec .hostWriteSector s = .next t ∧ pointRun 2 t = .next (after s.cfg.idxWriteSingle .writeCommand))
end

