-- ==== Sys2Proof/Laws/State.lean ====
section
/-! SUPPORT. What each shared update of the state does to each field, one lemma a field, so that no proof unfolds a record
update. -/

namespace Sys2Proof.Machine

@[simp] theorem State.bufWrite_cfg (s : State) (a : Nat) (v : Byte) : (s.bufWrite a v).cfg = s.cfg := rfl
@[simp] theorem State.bufWrite_cardState (s : State) (a : Nat) (v : Byte) : (s.bufWrite a v).cardState = s.cardState := rfl
@[simp] theorem State.bufWrite_tcount (s : State) (a : Nat) (v : Byte) : (s.bufWrite a v).tcount = s.tcount := rfl
@[simp] theorem State.bufWrite_csa (s : State) (a : Nat) (v : Byte) : (s.bufWrite a v).csa = s.csa := rfl
@[simp] theorem State.bufWrite_speed (s : State) (a : Nat) (v : Byte) : (s.bufWrite a v).speed = s.speed := rfl
@[simp] theorem State.bufWrite_byteAddr (s : State) (a : Nat) (v : Byte) : (s.bufWrite a v).byteAddr = s.byteAddr := rfl
@[simp] theorem State.bufWrite_selto (s : State) (a : Nat) (v : Byte) : (s.bufWrite a v).selto = s.selto := rfl
@[simp] theorem State.bufWrite_lastR1 (s : State) (a : Nat) (v : Byte) : (s.bufWrite a v).lastR1 = s.lastR1 := rfl
@[simp] theorem State.bufWrite_attempt (s : State) (a : Nat) (v : Byte) : (s.bufWrite a v).attempt = s.attempt := rfl
@[simp] theorem State.bufWrite_npoll (s : State) (a : Nat) (v : Byte) : (s.bufWrite a v).npoll = s.npoll := rfl
@[simp] theorem State.bufWrite_bidx (s : State) (a : Nat) (v : Byte) : (s.bufWrite a v).bidx = s.bidx := rfl
@[simp] theorem State.bufWrite_ndummy (s : State) (a : Nat) (v : Byte) : (s.bufWrite a v).ndummy = s.ndummy := rfl
@[simp] theorem State.bufWrite_seqpos (s : State) (a : Nat) (v : Byte) : (s.bufWrite a v).seqpos = s.seqpos := rfl
@[simp] theorem State.bufWrite_ret (s : State) (a : Nat) (v : Byte) : (s.bufWrite a v).ret = s.ret := rfl
@[simp] theorem State.bufWrite_busy (s : State) (a : Nat) (v : Byte) : (s.bufWrite a v).busy = s.busy := rfl
@[simp] theorem State.bufWrite_ovr (s : State) (a : Nat) (v : Byte) : (s.bufWrite a v).ovr = s.ovr := rfl
@[simp] theorem State.bufWrite_win (s : State) (a : Nat) (v : Byte) : (s.bufWrite a v).win = s.win := rfl
@[simp] theorem State.bufWrite_lat (s : State) (a : Nat) (v : Byte) : (s.bufWrite a v).lat = s.lat := rfl
@[simp] theorem State.bufWrite_buf (s : State) (a : Nat) (v : Byte) : (s.bufWrite a v).buf = Memory.put s.buf a v := rfl
@[simp] theorem State.bufWrite_env (s : State) (a : Nat) (v : Byte) : (s.bufWrite a v).env = s.env := rfl
@[simp] theorem State.bufWrite_wire (s : State) (a : Nat) (v : Byte) : (s.bufWrite a v).wire = s.wire := rfl
@[simp] theorem State.bufWrite_hostData (s : State) (a : Nat) (v : Byte) : (s.bufWrite a v).hostData = s.hostData := rfl

@[simp] theorem State.exchangeByte_cfg (s : State) (o : Byte) : (s.exchangeByte o).cfg = s.cfg := rfl
@[simp] theorem State.exchangeByte_cardState (s : State) (o : Byte) : (s.exchangeByte o).cardState = s.cardState := rfl
@[simp] theorem State.exchangeByte_tcount (s : State) (o : Byte) : (s.exchangeByte o).tcount = s.tcount := rfl
@[simp] theorem State.exchangeByte_csa (s : State) (o : Byte) : (s.exchangeByte o).csa = s.csa := rfl
@[simp] theorem State.exchangeByte_speed (s : State) (o : Byte) : (s.exchangeByte o).speed = s.speed := rfl
@[simp] theorem State.exchangeByte_byteAddr (s : State) (o : Byte) : (s.exchangeByte o).byteAddr = s.byteAddr := rfl
@[simp] theorem State.exchangeByte_selto (s : State) (o : Byte) : (s.exchangeByte o).selto = s.selto := rfl
@[simp] theorem State.exchangeByte_lastR1 (s : State) (o : Byte) : (s.exchangeByte o).lastR1 = s.lastR1 := rfl
@[simp] theorem State.exchangeByte_attempt (s : State) (o : Byte) : (s.exchangeByte o).attempt = s.attempt := rfl
@[simp] theorem State.exchangeByte_npoll (s : State) (o : Byte) : (s.exchangeByte o).npoll = s.npoll := rfl
@[simp] theorem State.exchangeByte_bidx (s : State) (o : Byte) : (s.exchangeByte o).bidx = s.bidx := rfl
@[simp] theorem State.exchangeByte_ndummy (s : State) (o : Byte) : (s.exchangeByte o).ndummy = s.ndummy := rfl
@[simp] theorem State.exchangeByte_seqpos (s : State) (o : Byte) : (s.exchangeByte o).seqpos = s.seqpos := rfl
@[simp] theorem State.exchangeByte_ret (s : State) (o : Byte) : (s.exchangeByte o).ret = { s.ret with byte := s.env.cardByte } := rfl
@[simp] theorem State.exchangeByte_busy (s : State) (o : Byte) : (s.exchangeByte o).busy = s.busy := rfl
@[simp] theorem State.exchangeByte_ovr (s : State) (o : Byte) : (s.exchangeByte o).ovr = s.ovr := rfl
@[simp] theorem State.exchangeByte_win (s : State) (o : Byte) : (s.exchangeByte o).win = s.win := rfl
@[simp] theorem State.exchangeByte_lat (s : State) (o : Byte) : (s.exchangeByte o).lat = s.lat := rfl
@[simp] theorem State.exchangeByte_buf (s : State) (o : Byte) : (s.exchangeByte o).buf = s.buf := rfl
@[simp] theorem State.exchangeByte_env (s : State) (o : Byte) : (s.exchangeByte o).env = s.env.afterAnswer := rfl
@[simp] theorem State.exchangeByte_wire (s : State) (o : Byte) : (s.exchangeByte o).wire = .exch o s.env.cardByte :: s.wire := rfl
@[simp] theorem State.exchangeByte_hostData (s : State) (o : Byte) : (s.exchangeByte o).hostData = s.hostData := rfl

@[simp] theorem State.driveCS_cfg (s : State) (b : Bool) : (s.driveCS b).cfg = s.cfg := rfl
@[simp] theorem State.driveCS_cardState (s : State) (b : Bool) : (s.driveCS b).cardState = s.cardState := rfl
@[simp] theorem State.driveCS_tcount (s : State) (b : Bool) : (s.driveCS b).tcount = s.tcount := rfl
@[simp] theorem State.driveCS_csa (s : State) (b : Bool) : (s.driveCS b).csa = b := rfl
@[simp] theorem State.driveCS_speed (s : State) (b : Bool) : (s.driveCS b).speed = s.speed := rfl
@[simp] theorem State.driveCS_byteAddr (s : State) (b : Bool) : (s.driveCS b).byteAddr = s.byteAddr := rfl
@[simp] theorem State.driveCS_selto (s : State) (b : Bool) : (s.driveCS b).selto = s.selto := rfl
@[simp] theorem State.driveCS_lastR1 (s : State) (b : Bool) : (s.driveCS b).lastR1 = s.lastR1 := rfl
@[simp] theorem State.driveCS_attempt (s : State) (b : Bool) : (s.driveCS b).attempt = s.attempt := rfl
@[simp] theorem State.driveCS_npoll (s : State) (b : Bool) : (s.driveCS b).npoll = s.npoll := rfl
@[simp] theorem State.driveCS_bidx (s : State) (b : Bool) : (s.driveCS b).bidx = s.bidx := rfl
@[simp] theorem State.driveCS_ndummy (s : State) (b : Bool) : (s.driveCS b).ndummy = s.ndummy := rfl
@[simp] theorem State.driveCS_seqpos (s : State) (b : Bool) : (s.driveCS b).seqpos = s.seqpos := rfl
@[simp] theorem State.driveCS_ret (s : State) (b : Bool) : (s.driveCS b).ret = s.ret := rfl
@[simp] theorem State.driveCS_busy (s : State) (b : Bool) : (s.driveCS b).busy = s.busy := rfl
@[simp] theorem State.driveCS_ovr (s : State) (b : Bool) : (s.driveCS b).ovr = s.ovr := rfl
@[simp] theorem State.driveCS_win (s : State) (b : Bool) : (s.driveCS b).win = s.win := rfl
@[simp] theorem State.driveCS_lat (s : State) (b : Bool) : (s.driveCS b).lat = s.lat := rfl
@[simp] theorem State.driveCS_buf (s : State) (b : Bool) : (s.driveCS b).buf = s.buf := rfl
@[simp] theorem State.driveCS_env (s : State) (b : Bool) : (s.driveCS b).env = s.env := rfl
@[simp] theorem State.driveCS_wire (s : State) (b : Bool) : (s.driveCS b).wire = (if b then .sel else .desel) :: s.wire := rfl
@[simp] theorem State.driveCS_hostData (s : State) (b : Bool) : (s.driveCS b).hostData = s.hostData := rfl

@[simp] theorem State.driveSpeed_cfg (s : State) (v : Speed) : (s.driveSpeed v).cfg = s.cfg := rfl
@[simp] theorem State.driveSpeed_cardState (s : State) (v : Speed) : (s.driveSpeed v).cardState = s.cardState := rfl
@[simp] theorem State.driveSpeed_tcount (s : State) (v : Speed) : (s.driveSpeed v).tcount = s.tcount := rfl
@[simp] theorem State.driveSpeed_csa (s : State) (v : Speed) : (s.driveSpeed v).csa = s.csa := rfl
@[simp] theorem State.driveSpeed_speed (s : State) (v : Speed) : (s.driveSpeed v).speed = v := rfl
@[simp] theorem State.driveSpeed_byteAddr (s : State) (v : Speed) : (s.driveSpeed v).byteAddr = s.byteAddr := rfl
@[simp] theorem State.driveSpeed_selto (s : State) (v : Speed) : (s.driveSpeed v).selto = s.selto := rfl
@[simp] theorem State.driveSpeed_lastR1 (s : State) (v : Speed) : (s.driveSpeed v).lastR1 = s.lastR1 := rfl
@[simp] theorem State.driveSpeed_attempt (s : State) (v : Speed) : (s.driveSpeed v).attempt = s.attempt := rfl
@[simp] theorem State.driveSpeed_npoll (s : State) (v : Speed) : (s.driveSpeed v).npoll = s.npoll := rfl
@[simp] theorem State.driveSpeed_bidx (s : State) (v : Speed) : (s.driveSpeed v).bidx = s.bidx := rfl
@[simp] theorem State.driveSpeed_ndummy (s : State) (v : Speed) : (s.driveSpeed v).ndummy = s.ndummy := rfl
@[simp] theorem State.driveSpeed_seqpos (s : State) (v : Speed) : (s.driveSpeed v).seqpos = s.seqpos := rfl
@[simp] theorem State.driveSpeed_ret (s : State) (v : Speed) : (s.driveSpeed v).ret = s.ret := rfl
@[simp] theorem State.driveSpeed_busy (s : State) (v : Speed) : (s.driveSpeed v).busy = s.busy := rfl
@[simp] theorem State.driveSpeed_ovr (s : State) (v : Speed) : (s.driveSpeed v).ovr = s.ovr := rfl
@[simp] theorem State.driveSpeed_win (s : State) (v : Speed) : (s.driveSpeed v).win = s.win := rfl
@[simp] theorem State.driveSpeed_lat (s : State) (v : Speed) : (s.driveSpeed v).lat = s.lat := rfl
@[simp] theorem State.driveSpeed_buf (s : State) (v : Speed) : (s.driveSpeed v).buf = s.buf := rfl
@[simp] theorem State.driveSpeed_env (s : State) (v : Speed) : (s.driveSpeed v).env = s.env := rfl
@[simp] theorem State.driveSpeed_wire (s : State) (v : Speed) : (s.driveSpeed v).wire = .speed v :: s.wire := rfl
@[simp] theorem State.driveSpeed_hostData (s : State) (v : Speed) : (s.driveSpeed v).hostData = s.hostData := rfl

@[simp] theorem State.armTimer_cfg (s : State) (n : Nat) : (s.armTimer n).cfg = s.cfg := rfl
@[simp] theorem State.armTimer_cardState (s : State) (n : Nat) : (s.armTimer n).cardState = s.cardState := rfl
@[simp] theorem State.armTimer_tcount (s : State) (n : Nat) : (s.armTimer n).tcount = n := rfl
@[simp] theorem State.armTimer_csa (s : State) (n : Nat) : (s.armTimer n).csa = s.csa := rfl
@[simp] theorem State.armTimer_speed (s : State) (n : Nat) : (s.armTimer n).speed = s.speed := rfl
@[simp] theorem State.armTimer_byteAddr (s : State) (n : Nat) : (s.armTimer n).byteAddr = s.byteAddr := rfl
@[simp] theorem State.armTimer_selto (s : State) (n : Nat) : (s.armTimer n).selto = s.selto := rfl
@[simp] theorem State.armTimer_lastR1 (s : State) (n : Nat) : (s.armTimer n).lastR1 = s.lastR1 := rfl
@[simp] theorem State.armTimer_attempt (s : State) (n : Nat) : (s.armTimer n).attempt = s.attempt := rfl
@[simp] theorem State.armTimer_npoll (s : State) (n : Nat) : (s.armTimer n).npoll = s.npoll := rfl
@[simp] theorem State.armTimer_bidx (s : State) (n : Nat) : (s.armTimer n).bidx = s.bidx := rfl
@[simp] theorem State.armTimer_ndummy (s : State) (n : Nat) : (s.armTimer n).ndummy = s.ndummy := rfl
@[simp] theorem State.armTimer_seqpos (s : State) (n : Nat) : (s.armTimer n).seqpos = s.seqpos := rfl
@[simp] theorem State.armTimer_ret (s : State) (n : Nat) : (s.armTimer n).ret = s.ret := rfl
@[simp] theorem State.armTimer_busy (s : State) (n : Nat) : (s.armTimer n).busy = s.busy := rfl
@[simp] theorem State.armTimer_ovr (s : State) (n : Nat) : (s.armTimer n).ovr = s.ovr := rfl
@[simp] theorem State.armTimer_win (s : State) (n : Nat) : (s.armTimer n).win = s.win := rfl
@[simp] theorem State.armTimer_lat (s : State) (n : Nat) : (s.armTimer n).lat = s.lat := rfl
@[simp] theorem State.armTimer_buf (s : State) (n : Nat) : (s.armTimer n).buf = s.buf := rfl
@[simp] theorem State.armTimer_env (s : State) (n : Nat) : (s.armTimer n).env = s.env := rfl
@[simp] theorem State.armTimer_wire (s : State) (n : Nat) : (s.armTimer n).wire = .arm n :: s.wire := rfl
@[simp] theorem State.armTimer_hostData (s : State) (n : Nat) : (s.armTimer n).hostData = s.hostData := rfl

@[simp] theorem State.tickTimer_cfg (s : State) : (s.tickTimer).cfg = s.cfg := rfl
@[simp] theorem State.tickTimer_cardState (s : State) : (s.tickTimer).cardState = s.cardState := rfl
@[simp] theorem State.tickTimer_tcount (s : State) : (s.tickTimer).tcount = s.tcount - 1 := rfl
@[simp] theorem State.tickTimer_csa (s : State) : (s.tickTimer).csa = s.csa := rfl
@[simp] theorem State.tickTimer_speed (s : State) : (s.tickTimer).speed = s.speed := rfl
@[simp] theorem State.tickTimer_byteAddr (s : State) : (s.tickTimer).byteAddr = s.byteAddr := rfl
@[simp] theorem State.tickTimer_selto (s : State) : (s.tickTimer).selto = s.selto := rfl
@[simp] theorem State.tickTimer_lastR1 (s : State) : (s.tickTimer).lastR1 = s.lastR1 := rfl
@[simp] theorem State.tickTimer_attempt (s : State) : (s.tickTimer).attempt = s.attempt := rfl
@[simp] theorem State.tickTimer_npoll (s : State) : (s.tickTimer).npoll = s.npoll := rfl
@[simp] theorem State.tickTimer_bidx (s : State) : (s.tickTimer).bidx = s.bidx := rfl
@[simp] theorem State.tickTimer_ndummy (s : State) : (s.tickTimer).ndummy = s.ndummy := rfl
@[simp] theorem State.tickTimer_seqpos (s : State) : (s.tickTimer).seqpos = s.seqpos := rfl
@[simp] theorem State.tickTimer_ret (s : State) : (s.tickTimer).ret = s.ret := rfl
@[simp] theorem State.tickTimer_busy (s : State) : (s.tickTimer).busy = s.busy := rfl
@[simp] theorem State.tickTimer_ovr (s : State) : (s.tickTimer).ovr = s.ovr := rfl
@[simp] theorem State.tickTimer_win (s : State) : (s.tickTimer).win = s.win := rfl
@[simp] theorem State.tickTimer_lat (s : State) : (s.tickTimer).lat = s.lat := rfl
@[simp] theorem State.tickTimer_buf (s : State) : (s.tickTimer).buf = s.buf := rfl
@[simp] theorem State.tickTimer_env (s : State) : (s.tickTimer).env = s.env := rfl
@[simp] theorem State.tickTimer_wire (s : State) : (s.tickTimer).wire = .tick :: s.wire := rfl
@[simp] theorem State.tickTimer_hostData (s : State) : (s.tickTimer).hostData = s.hostData := rfl

@[simp] theorem State.readExpired_cfg (s : State) : (s.readExpired).cfg = s.cfg := rfl
@[simp] theorem State.readExpired_cardState (s : State) : (s.readExpired).cardState = s.cardState := rfl
@[simp] theorem State.readExpired_tcount (s : State) : (s.readExpired).tcount = s.tcount := rfl
@[simp] theorem State.readExpired_csa (s : State) : (s.readExpired).csa = s.csa := rfl
@[simp] theorem State.readExpired_speed (s : State) : (s.readExpired).speed = s.speed := rfl
@[simp] theorem State.readExpired_byteAddr (s : State) : (s.readExpired).byteAddr = s.byteAddr := rfl
@[simp] theorem State.readExpired_selto (s : State) : (s.readExpired).selto = s.selto := rfl
@[simp] theorem State.readExpired_lastR1 (s : State) : (s.readExpired).lastR1 = s.lastR1 := rfl
@[simp] theorem State.readExpired_attempt (s : State) : (s.readExpired).attempt = s.attempt := rfl
@[simp] theorem State.readExpired_npoll (s : State) : (s.readExpired).npoll = s.npoll := rfl
@[simp] theorem State.readExpired_bidx (s : State) : (s.readExpired).bidx = s.bidx := rfl
@[simp] theorem State.readExpired_ndummy (s : State) : (s.readExpired).ndummy = s.ndummy := rfl
@[simp] theorem State.readExpired_seqpos (s : State) : (s.readExpired).seqpos = s.seqpos := rfl
@[simp] theorem State.readExpired_ret (s : State) : (s.readExpired).ret = { s.ret with ok := s.tcount == 0 } := rfl
@[simp] theorem State.readExpired_busy (s : State) : (s.readExpired).busy = s.busy := rfl
@[simp] theorem State.readExpired_ovr (s : State) : (s.readExpired).ovr = s.ovr := rfl
@[simp] theorem State.readExpired_win (s : State) : (s.readExpired).win = s.win := rfl
@[simp] theorem State.readExpired_lat (s : State) : (s.readExpired).lat = s.lat := rfl
@[simp] theorem State.readExpired_buf (s : State) : (s.readExpired).buf = s.buf := rfl
@[simp] theorem State.readExpired_env (s : State) : (s.readExpired).env = s.env := rfl
@[simp] theorem State.readExpired_wire (s : State) : (s.readExpired).wire = .expired (s.tcount == 0) :: s.wire := rfl
@[simp] theorem State.readExpired_hostData (s : State) : (s.readExpired).hostData = s.hostData := rfl

@[simp] theorem State.push_cfg (s : State) (ps : List Point) : (s.push ps).cfg = s.cfg := rfl
@[simp] theorem State.push_cardState (s : State) (ps : List Point) : (s.push ps).cardState = s.cardState := rfl
@[simp] theorem State.push_tcount (s : State) (ps : List Point) : (s.push ps).tcount = s.tcount := rfl
@[simp] theorem State.push_csa (s : State) (ps : List Point) : (s.push ps).csa = s.csa := rfl
@[simp] theorem State.push_speed (s : State) (ps : List Point) : (s.push ps).speed = s.speed := rfl
@[simp] theorem State.push_byteAddr (s : State) (ps : List Point) : (s.push ps).byteAddr = s.byteAddr := rfl
@[simp] theorem State.push_selto (s : State) (ps : List Point) : (s.push ps).selto = s.selto := rfl
@[simp] theorem State.push_lastR1 (s : State) (ps : List Point) : (s.push ps).lastR1 = s.lastR1 := rfl
@[simp] theorem State.push_attempt (s : State) (ps : List Point) : (s.push ps).attempt = s.attempt := rfl
@[simp] theorem State.push_npoll (s : State) (ps : List Point) : (s.push ps).npoll = s.npoll := rfl
@[simp] theorem State.push_bidx (s : State) (ps : List Point) : (s.push ps).bidx = s.bidx := rfl
@[simp] theorem State.push_ndummy (s : State) (ps : List Point) : (s.push ps).ndummy = s.ndummy := rfl
@[simp] theorem State.push_seqpos (s : State) (ps : List Point) : (s.push ps).seqpos = ps ++ s.seqpos := rfl
@[simp] theorem State.push_ret (s : State) (ps : List Point) : (s.push ps).ret = s.ret := rfl
@[simp] theorem State.push_busy (s : State) (ps : List Point) : (s.push ps).busy = s.busy := rfl
@[simp] theorem State.push_ovr (s : State) (ps : List Point) : (s.push ps).ovr = s.ovr := rfl
@[simp] theorem State.push_win (s : State) (ps : List Point) : (s.push ps).win = s.win := rfl
@[simp] theorem State.push_lat (s : State) (ps : List Point) : (s.push ps).lat = s.lat := rfl
@[simp] theorem State.push_buf (s : State) (ps : List Point) : (s.push ps).buf = s.buf := rfl
@[simp] theorem State.push_env (s : State) (ps : List Point) : (s.push ps).env = s.env := rfl
@[simp] theorem State.push_wire (s : State) (ps : List Point) : (s.push ps).wire = s.wire := rfl
@[simp] theorem State.push_hostData (s : State) (ps : List Point) : (s.push ps).hostData = s.hostData := rfl

@[simp] theorem State.giveOk_cfg (s : State) (b : Bool) : (s.giveOk b).cfg = s.cfg := rfl
@[simp] theorem State.giveOk_cardState (s : State) (b : Bool) : (s.giveOk b).cardState = s.cardState := rfl
@[simp] theorem State.giveOk_tcount (s : State) (b : Bool) : (s.giveOk b).tcount = s.tcount := rfl
@[simp] theorem State.giveOk_csa (s : State) (b : Bool) : (s.giveOk b).csa = s.csa := rfl
@[simp] theorem State.giveOk_speed (s : State) (b : Bool) : (s.giveOk b).speed = s.speed := rfl
@[simp] theorem State.giveOk_byteAddr (s : State) (b : Bool) : (s.giveOk b).byteAddr = s.byteAddr := rfl
@[simp] theorem State.giveOk_selto (s : State) (b : Bool) : (s.giveOk b).selto = s.selto := rfl
@[simp] theorem State.giveOk_lastR1 (s : State) (b : Bool) : (s.giveOk b).lastR1 = s.lastR1 := rfl
@[simp] theorem State.giveOk_attempt (s : State) (b : Bool) : (s.giveOk b).attempt = s.attempt := rfl
@[simp] theorem State.giveOk_npoll (s : State) (b : Bool) : (s.giveOk b).npoll = s.npoll := rfl
@[simp] theorem State.giveOk_bidx (s : State) (b : Bool) : (s.giveOk b).bidx = s.bidx := rfl
@[simp] theorem State.giveOk_ndummy (s : State) (b : Bool) : (s.giveOk b).ndummy = s.ndummy := rfl
@[simp] theorem State.giveOk_seqpos (s : State) (b : Bool) : (s.giveOk b).seqpos = s.seqpos := rfl
@[simp] theorem State.giveOk_ret (s : State) (b : Bool) : (s.giveOk b).ret = { s.ret with ok := b } := rfl
@[simp] theorem State.giveOk_busy (s : State) (b : Bool) : (s.giveOk b).busy = s.busy := rfl
@[simp] theorem State.giveOk_ovr (s : State) (b : Bool) : (s.giveOk b).ovr = s.ovr := rfl
@[simp] theorem State.giveOk_win (s : State) (b : Bool) : (s.giveOk b).win = s.win := rfl
@[simp] theorem State.giveOk_lat (s : State) (b : Bool) : (s.giveOk b).lat = s.lat := rfl
@[simp] theorem State.giveOk_buf (s : State) (b : Bool) : (s.giveOk b).buf = s.buf := rfl
@[simp] theorem State.giveOk_env (s : State) (b : Bool) : (s.giveOk b).env = s.env := rfl
@[simp] theorem State.giveOk_wire (s : State) (b : Bool) : (s.giveOk b).wire = s.wire := rfl
@[simp] theorem State.giveOk_hostData (s : State) (b : Bool) : (s.giveOk b).hostData = s.hostData := rfl

@[simp] theorem State.giveByte_cfg (s : State) (b : Byte) : (s.giveByte b).cfg = s.cfg := rfl
@[simp] theorem State.giveByte_cardState (s : State) (b : Byte) : (s.giveByte b).cardState = s.cardState := rfl
@[simp] theorem State.giveByte_tcount (s : State) (b : Byte) : (s.giveByte b).tcount = s.tcount := rfl
@[simp] theorem State.giveByte_csa (s : State) (b : Byte) : (s.giveByte b).csa = s.csa := rfl
@[simp] theorem State.giveByte_speed (s : State) (b : Byte) : (s.giveByte b).speed = s.speed := rfl
@[simp] theorem State.giveByte_byteAddr (s : State) (b : Byte) : (s.giveByte b).byteAddr = s.byteAddr := rfl
@[simp] theorem State.giveByte_selto (s : State) (b : Byte) : (s.giveByte b).selto = s.selto := rfl
@[simp] theorem State.giveByte_lastR1 (s : State) (b : Byte) : (s.giveByte b).lastR1 = s.lastR1 := rfl
@[simp] theorem State.giveByte_attempt (s : State) (b : Byte) : (s.giveByte b).attempt = s.attempt := rfl
@[simp] theorem State.giveByte_npoll (s : State) (b : Byte) : (s.giveByte b).npoll = s.npoll := rfl
@[simp] theorem State.giveByte_bidx (s : State) (b : Byte) : (s.giveByte b).bidx = s.bidx := rfl
@[simp] theorem State.giveByte_ndummy (s : State) (b : Byte) : (s.giveByte b).ndummy = s.ndummy := rfl
@[simp] theorem State.giveByte_seqpos (s : State) (b : Byte) : (s.giveByte b).seqpos = s.seqpos := rfl
@[simp] theorem State.giveByte_ret (s : State) (b : Byte) : (s.giveByte b).ret = { s.ret with byte := b } := rfl
@[simp] theorem State.giveByte_busy (s : State) (b : Byte) : (s.giveByte b).busy = s.busy := rfl
@[simp] theorem State.giveByte_ovr (s : State) (b : Byte) : (s.giveByte b).ovr = s.ovr := rfl
@[simp] theorem State.giveByte_win (s : State) (b : Byte) : (s.giveByte b).win = s.win := rfl
@[simp] theorem State.giveByte_lat (s : State) (b : Byte) : (s.giveByte b).lat = s.lat := rfl
@[simp] theorem State.giveByte_buf (s : State) (b : Byte) : (s.giveByte b).buf = s.buf := rfl
@[simp] theorem State.giveByte_env (s : State) (b : Byte) : (s.giveByte b).env = s.env := rfl
@[simp] theorem State.giveByte_wire (s : State) (b : Byte) : (s.giveByte b).wire = s.wire := rfl
@[simp] theorem State.giveByte_hostData (s : State) (b : Byte) : (s.giveByte b).hostData = s.hostData := rfl

@[simp] theorem State.completeWith_cfg (s : State) (res : Half) : (s.completeWith res).cfg = s.cfg := rfl
@[simp] theorem State.completeWith_cardState (s : State) (res : Half) : (s.completeWith res).cardState = s.cardState := rfl
@[simp] theorem State.completeWith_tcount (s : State) (res : Half) : (s.completeWith res).tcount = s.tcount := rfl
@[simp] theorem State.completeWith_csa (s : State) (res : Half) : (s.completeWith res).csa = s.csa := rfl
@[simp] theorem State.completeWith_speed (s : State) (res : Half) : (s.completeWith res).speed = s.speed := rfl
@[simp] theorem State.completeWith_byteAddr (s : State) (res : Half) : (s.completeWith res).byteAddr = s.byteAddr := rfl
@[simp] theorem State.completeWith_selto (s : State) (res : Half) : (s.completeWith res).selto = s.selto := rfl
@[simp] theorem State.completeWith_lastR1 (s : State) (res : Half) : (s.completeWith res).lastR1 = s.lastR1 := rfl
@[simp] theorem State.completeWith_attempt (s : State) (res : Half) : (s.completeWith res).attempt = s.attempt := rfl
@[simp] theorem State.completeWith_npoll (s : State) (res : Half) : (s.completeWith res).npoll = s.npoll := rfl
@[simp] theorem State.completeWith_bidx (s : State) (res : Half) : (s.completeWith res).bidx = s.bidx := rfl
@[simp] theorem State.completeWith_ndummy (s : State) (res : Half) : (s.completeWith res).ndummy = s.ndummy := rfl
@[simp] theorem State.completeWith_seqpos (s : State) (res : Half) : (s.completeWith res).seqpos = [] := rfl
@[simp] theorem State.completeWith_ret (s : State) (res : Half) : (s.completeWith res).ret = s.ret := rfl
@[simp] theorem State.completeWith_busy (s : State) (res : Half) : (s.completeWith res).busy = false := rfl
@[simp] theorem State.completeWith_ovr (s : State) (res : Half) : (s.completeWith res).ovr = s.ovr := rfl
@[simp] theorem State.completeWith_win (s : State) (res : Half) : (s.completeWith res).win = { s.win with result := res } := rfl
@[simp] theorem State.completeWith_lat (s : State) (res : Half) : (s.completeWith res).lat = s.lat := rfl
@[simp] theorem State.completeWith_buf (s : State) (res : Half) : (s.completeWith res).buf = s.buf := rfl
@[simp] theorem State.completeWith_env (s : State) (res : Half) : (s.completeWith res).env = s.env := rfl
@[simp] theorem State.completeWith_wire (s : State) (res : Half) : (s.completeWith res).wire = s.wire := rfl
@[simp] theorem State.completeWith_hostData (s : State) (res : Half) : (s.completeWith res).hostData = s.hostData := rfl

@[simp] theorem State.raiseOpError_cfg (s : State) (code : Half) : (s.raiseOpError code).cfg = s.cfg := rfl
@[simp] theorem State.raiseOpError_cardState (s : State) (code : Half) : (s.raiseOpError code).cardState = s.cardState := rfl
@[simp] theorem State.raiseOpError_tcount (s : State) (code : Half) : (s.raiseOpError code).tcount = s.tcount := rfl
@[simp] theorem State.raiseOpError_csa (s : State) (code : Half) : (s.raiseOpError code).csa = s.csa := rfl
@[simp] theorem State.raiseOpError_speed (s : State) (code : Half) : (s.raiseOpError code).speed = s.speed := rfl
@[simp] theorem State.raiseOpError_byteAddr (s : State) (code : Half) : (s.raiseOpError code).byteAddr = s.byteAddr := rfl
@[simp] theorem State.raiseOpError_selto (s : State) (code : Half) : (s.raiseOpError code).selto = s.selto := rfl
@[simp] theorem State.raiseOpError_lastR1 (s : State) (code : Half) : (s.raiseOpError code).lastR1 = s.lastR1 := rfl
@[simp] theorem State.raiseOpError_attempt (s : State) (code : Half) : (s.raiseOpError code).attempt = s.attempt := rfl
@[simp] theorem State.raiseOpError_npoll (s : State) (code : Half) : (s.raiseOpError code).npoll = s.npoll := rfl
@[simp] theorem State.raiseOpError_bidx (s : State) (code : Half) : (s.raiseOpError code).bidx = s.bidx := rfl
@[simp] theorem State.raiseOpError_ndummy (s : State) (code : Half) : (s.raiseOpError code).ndummy = s.ndummy := rfl
@[simp] theorem State.raiseOpError_seqpos (s : State) (code : Half) : (s.raiseOpError code).seqpos = [.op (.complete (negCode code))] := rfl
@[simp] theorem State.raiseOpError_ret (s : State) (code : Half) : (s.raiseOpError code).ret = s.ret := rfl
@[simp] theorem State.raiseOpError_busy (s : State) (code : Half) : (s.raiseOpError code).busy = s.busy := rfl
@[simp] theorem State.raiseOpError_ovr (s : State) (code : Half) : (s.raiseOpError code).ovr = s.ovr := rfl
@[simp] theorem State.raiseOpError_win (s : State) (code : Half) : (s.raiseOpError code).win = s.win := rfl
@[simp] theorem State.raiseOpError_lat (s : State) (code : Half) : (s.raiseOpError code).lat = s.lat := rfl
@[simp] theorem State.raiseOpError_buf (s : State) (code : Half) : (s.raiseOpError code).buf = s.buf := rfl
@[simp] theorem State.raiseOpError_env (s : State) (code : Half) : (s.raiseOpError code).env = s.env := rfl
@[simp] theorem State.raiseOpError_wire (s : State) (code : Half) : (s.raiseOpError code).wire = s.wire := rfl
@[simp] theorem State.raiseOpError_hostData (s : State) (code : Half) : (s.raiseOpError code).hostData = s.hostData := rfl

@[simp] theorem State.issue_cfg (s : State) : (s.issue).cfg = s.cfg := rfl
@[simp] theorem State.issue_cardState (s : State) : (s.issue).cardState = s.cardState := rfl
@[simp] theorem State.issue_tcount (s : State) : (s.issue).tcount = s.tcount := rfl
@[simp] theorem State.issue_csa (s : State) : (s.issue).csa = s.csa := rfl
@[simp] theorem State.issue_speed (s : State) : (s.issue).speed = s.speed := rfl
@[simp] theorem State.issue_byteAddr (s : State) : (s.issue).byteAddr = s.byteAddr := rfl
@[simp] theorem State.issue_selto (s : State) : (s.issue).selto = s.selto := rfl
@[simp] theorem State.issue_lastR1 (s : State) : (s.issue).lastR1 = s.lastR1 := rfl
@[simp] theorem State.issue_attempt (s : State) : (s.issue).attempt = s.attempt := rfl
@[simp] theorem State.issue_npoll (s : State) : (s.issue).npoll = s.npoll := rfl
@[simp] theorem State.issue_bidx (s : State) : (s.issue).bidx = s.bidx := rfl
@[simp] theorem State.issue_ndummy (s : State) : (s.issue).ndummy = s.ndummy := rfl
@[simp] theorem State.issue_seqpos (s : State) : (s.issue).seqpos = s.seqpos := rfl
@[simp] theorem State.issue_ret (s : State) : (s.issue).ret = s.ret := rfl
@[simp] theorem State.issue_busy (s : State) : (s.issue).busy = true := rfl
@[simp] theorem State.issue_ovr (s : State) : (s.issue).ovr = s.ovr := rfl
@[simp] theorem State.issue_win (s : State) : (s.issue).win = s.win := rfl
@[simp] theorem State.issue_lat (s : State) : (s.issue).lat = s.win.operands := rfl
@[simp] theorem State.issue_buf (s : State) : (s.issue).buf = s.buf := rfl
@[simp] theorem State.issue_env (s : State) : (s.issue).env = s.env := rfl
@[simp] theorem State.issue_wire (s : State) : (s.issue).wire = s.wire := rfl
@[simp] theorem State.issue_hostData (s : State) : (s.issue).hostData = s.hostData := rfl

@[simp] theorem State.startAt_cfg (s : State) (ps : List Point) : (s.startAt ps).cfg = s.cfg := rfl
@[simp] theorem State.startAt_cardState (s : State) (ps : List Point) : (s.startAt ps).cardState = s.cardState := rfl
@[simp] theorem State.startAt_tcount (s : State) (ps : List Point) : (s.startAt ps).tcount = s.tcount := rfl
@[simp] theorem State.startAt_csa (s : State) (ps : List Point) : (s.startAt ps).csa = s.csa := rfl
@[simp] theorem State.startAt_speed (s : State) (ps : List Point) : (s.startAt ps).speed = s.speed := rfl
@[simp] theorem State.startAt_byteAddr (s : State) (ps : List Point) : (s.startAt ps).byteAddr = s.byteAddr := rfl
@[simp] theorem State.startAt_selto (s : State) (ps : List Point) : (s.startAt ps).selto = s.selto := rfl
@[simp] theorem State.startAt_lastR1 (s : State) (ps : List Point) : (s.startAt ps).lastR1 = s.lastR1 := rfl
@[simp] theorem State.startAt_attempt (s : State) (ps : List Point) : (s.startAt ps).attempt = s.attempt := rfl
@[simp] theorem State.startAt_npoll (s : State) (ps : List Point) : (s.startAt ps).npoll = s.npoll := rfl
@[simp] theorem State.startAt_bidx (s : State) (ps : List Point) : (s.startAt ps).bidx = s.bidx := rfl
@[simp] theorem State.startAt_ndummy (s : State) (ps : List Point) : (s.startAt ps).ndummy = s.ndummy := rfl
@[simp] theorem State.startAt_seqpos (s : State) (ps : List Point) : (s.startAt ps).seqpos = ps := rfl
@[simp] theorem State.startAt_ret (s : State) (ps : List Point) : (s.startAt ps).ret = s.ret := rfl
@[simp] theorem State.startAt_busy (s : State) (ps : List Point) : (s.startAt ps).busy = s.busy := rfl
@[simp] theorem State.startAt_ovr (s : State) (ps : List Point) : (s.startAt ps).ovr = s.ovr := rfl
@[simp] theorem State.startAt_win (s : State) (ps : List Point) : (s.startAt ps).win = s.win := rfl
@[simp] theorem State.startAt_lat (s : State) (ps : List Point) : (s.startAt ps).lat = s.lat := rfl
@[simp] theorem State.startAt_buf (s : State) (ps : List Point) : (s.startAt ps).buf = s.buf := rfl
@[simp] theorem State.startAt_env (s : State) (ps : List Point) : (s.startAt ps).env = s.env := rfl
@[simp] theorem State.startAt_wire (s : State) (ps : List Point) : (s.startAt ps).wire = s.wire := rfl
@[simp] theorem State.startAt_hostData (s : State) (ps : List Point) : (s.startAt ps).hostData = s.hostData := rfl

@[simp] theorem State.takeEvent_cfg (s : State) : (s.takeEvent).cfg = s.cfg := rfl
@[simp] theorem State.takeEvent_cardState (s : State) : (s.takeEvent).cardState = s.cardState := rfl
@[simp] theorem State.takeEvent_tcount (s : State) : (s.takeEvent).tcount = s.tcount := rfl
@[simp] theorem State.takeEvent_csa (s : State) : (s.takeEvent).csa = s.csa := rfl
@[simp] theorem State.takeEvent_speed (s : State) : (s.takeEvent).speed = s.speed := rfl
@[simp] theorem State.takeEvent_byteAddr (s : State) : (s.takeEvent).byteAddr = s.byteAddr := rfl
@[simp] theorem State.takeEvent_selto (s : State) : (s.takeEvent).selto = s.selto := rfl
@[simp] theorem State.takeEvent_lastR1 (s : State) : (s.takeEvent).lastR1 = s.lastR1 := rfl
@[simp] theorem State.takeEvent_attempt (s : State) : (s.takeEvent).attempt = s.attempt := rfl
@[simp] theorem State.takeEvent_npoll (s : State) : (s.takeEvent).npoll = s.npoll := rfl
@[simp] theorem State.takeEvent_bidx (s : State) : (s.takeEvent).bidx = s.bidx := rfl
@[simp] theorem State.takeEvent_ndummy (s : State) : (s.takeEvent).ndummy = s.ndummy := rfl
@[simp] theorem State.takeEvent_seqpos (s : State) : (s.takeEvent).seqpos = s.seqpos := rfl
@[simp] theorem State.takeEvent_ret (s : State) : (s.takeEvent).ret = s.ret := rfl
@[simp] theorem State.takeEvent_busy (s : State) : (s.takeEvent).busy = s.busy := rfl
@[simp] theorem State.takeEvent_ovr (s : State) : (s.takeEvent).ovr = s.ovr := rfl
@[simp] theorem State.takeEvent_win (s : State) : (s.takeEvent).win = s.win := rfl
@[simp] theorem State.takeEvent_lat (s : State) : (s.takeEvent).lat = s.lat := rfl
@[simp] theorem State.takeEvent_buf (s : State) : (s.takeEvent).buf = s.buf := rfl
@[simp] theorem State.takeEvent_env (s : State) : (s.takeEvent).env = s.env.afterEvent := rfl
@[simp] theorem State.takeEvent_wire (s : State) : (s.takeEvent).wire = s.wire := rfl
@[simp] theorem State.takeEvent_hostData (s : State) : (s.takeEvent).hostData = s.hostData := rfl

end Sys2Proof.Machine
end

