-- ==== Sys2Proof/Laws/Memory.lean ====
section
/-! SUPPORT. BUF: a read after a write, and the canonical form. -/

namespace Sys2Proof.Machine

theorem Memory.get?_put_same (m : Memory) (a : Nat) (v : Byte) : Memory.get? (Memory.put m a v) a = some v := by
  induction m with
  | nil => simp [Memory.put, Memory.get?]
  | cons e m ih =>
    obtain ⟨b, w⟩ := e
    simp only [Memory.put]
    split
    · simp [Memory.get?]
    · split
      · simp [Memory.get?]
      · have hne : ¬ b = a := fun h => by omega
        simp [Memory.get?, hne, ih]

theorem Memory.get?_put_other (m : Memory) {a b : Nat} (v : Byte) (h : b ≠ a) :
    Memory.get? (Memory.put m a v) b = Memory.get? m b := by
  induction m with
  | nil => simp [Memory.put, Memory.get?, h.symm]
  | cons e m ih =>
    obtain ⟨c, w⟩ := e
    simp only [Memory.put]
    split
    · simp [Memory.get?, h.symm]
    · split
      · next hac => subst hac; simp [Memory.get?, h.symm]
      · simp [Memory.get?, ih]

theorem Memory.wfFrom_put (m : Memory) {lo a : Nat} (v : Byte) (hlo : lo ≤ a) (ha : a < Param.blockLen)
    (hm : Memory.wfFrom lo m = true) : Memory.wfFrom lo (Memory.put m a v) = true := by
  induction m generalizing lo with
  | nil => simp [Memory.put, Memory.wfFrom, hlo, ha]
  | cons e m ih =>
    obtain ⟨b, w⟩ := e
    simp only [Memory.wfFrom, Bool.and_eq_true, decide_eq_true_eq] at hm
    obtain ⟨⟨h1, h2⟩, h3⟩ := hm
    simp only [Memory.put]
    split
    · next hab => simp [Memory.wfFrom, hlo, ha, h2, h3]; omega
    · split
      · next hab => subst hab; simp [Memory.wfFrom, h1, h2, h3]
      · simp only [Memory.wfFrom, Bool.and_eq_true, decide_eq_true_eq]
        exact ⟨⟨h1, h2⟩, ih (by omega) h3⟩

/-- Every write at an address of BUF keeps the canonical form. -/
theorem Memory.wf_put (m : Memory) {a : Nat} (v : Byte) (ha : a < Param.blockLen) (hm : Memory.wf m = true) :
    Memory.wf (Memory.put m a v) = true :=
  Memory.wfFrom_put m v (Nat.zero_le a) ha hm

theorem State.reset_buf_wf : Memory.wf State.reset.buf = true := rfl

@[simp] theorem State.bufRead_bufWrite_same (s : State) (a : Nat) (v : Byte) : (s.bufWrite a v).bufRead a = v := by
  simp [State.bufRead, Memory.get?_put_same]

theorem State.bufRead_bufWrite_other (s : State) {a b : Nat} (v : Byte) (h : b ≠ a) :
    (s.bufWrite a v).bufRead b = s.bufRead b := by
  simp [State.bufRead, Memory.get?_put_other s.buf v h]

/-- Equal BUFs read alike. -/
theorem State.bufRead_congr {s t : State} (h : s.buf = t.buf) (a : Nat) : s.bufRead a = t.bufRead a := by
  simp [State.bufRead, h]

/-- Two canonical memories that read alike are one list. -/
theorem Memory.wfFrom_get?_lt (m : Memory) {lo a : Nat} (hm : Memory.wfFrom lo m = true) (ha : a < lo) :
    Memory.get? m a = none := by
  induction m generalizing lo with
  | nil => rfl
  | cons e m ih =>
    obtain ⟨b, w⟩ := e
    simp only [Memory.wfFrom, Bool.and_eq_true, decide_eq_true_eq] at hm
    have hne : ¬ b = a := fun h => by omega
    simp [Memory.get?, hne, ih hm.2 (by omega)]

theorem Memory.ext_wfFrom (m n : Memory) {lo : Nat} (hm : Memory.wfFrom lo m = true) (hn : Memory.wfFrom lo n = true)
    (h : ∀ a, Memory.get? m a = Memory.get? n a) : m = n := by
  induction m generalizing lo n with
  | nil =>
    cases n with
    | nil => rfl
    | cons e n => have := h e.1; simp [Memory.get?] at this
  | cons e m ih =>
    obtain ⟨b, w⟩ := e
    cases n with
    | nil => have := h b; simp [Memory.get?] at this
    | cons f n =>
      obtain ⟨c, v⟩ := f
      simp only [Memory.wfFrom, Bool.and_eq_true, decide_eq_true_eq] at hm hn
      have hbc : b = c := by
        rcases Nat.lt_trichotomy b c with hlt | heq | hgt
        · have := h b
          simp [Memory.get?, show ¬ c = b by omega, Memory.wfFrom_get?_lt n hn.2 (show b < c + 1 by omega)] at this
        · exact heq
        · have := h c
          simp [Memory.get?, show ¬ b = c by omega, Memory.wfFrom_get?_lt m hm.2 (show c < b + 1 by omega)] at this
      subst hbc
      have hwv : w = v := by simpa [Memory.get?] using h b
      subst hwv
      congr 1
      refine ih n hm.2 hn.2 fun a => ?_
      rcases Nat.lt_or_ge a (b + 1) with hlt | hge
      · rw [Memory.wfFrom_get?_lt m hm.2 hlt, Memory.wfFrom_get?_lt n hn.2 hlt]
      · have := h a
        simpa [Memory.get?, show ¬ b = a by omega] using this

end Sys2Proof.Machine
end

