-- ==== Sys2Proof/Laws/Exec.lean ====
section
/-! SUPPORT. What each operation does, one lemma an operation: the lemma to cite instead of unfolding `exec`. -/

namespace Sys2Proof.Machine

theorem exec_hostReserved0 (s : State) : exec .hostReserved0 s =
    .next (s.refuseOp 0) := rfl

theorem exec_hostInitialize (s : State) : exec .hostInitialize s =
    .next (s.hostOp fun t =>
      { t with cardState := .uninitialized, byteAddr := false }.startAt
        [.op (.setSpeed .slow), .op .powerUpWait, .firstAttempt]) := rfl

theorem exec_hostReadSector (s : State) : exec .hostReadSector s =
    .next (s.hostOp fun t => t.ifReady [.op (.sectorArg t.lat.sector), .readArg]) := rfl

theorem exec_hostWriteSector (s : State) : exec .hostWriteSector s =
    .next (s.hostOp fun t => t.ifReady [.op (.sectorArg t.lat.sector), .writeArg]) := rfl

theorem exec_hostSendCommand (s : State) : exec .hostSendCommand s =
    .next (s.hostOp fun t => t.ifIdle fun u =>
      u.startAt [.op (.framer u.lat.index u.lat.arg u.lat.app), .respond]) := rfl

theorem exec_hostExchange (s : State) : exec .hostExchange s =
    .next (s.hostOp fun t => t.ifIdle fun u => u.startAt [.op (.exchange u.lat.out), .respond]) := rfl

theorem exec_hostFinish (s : State) : exec .hostFinish s =
    .next (s.hostOp fun t => t.ifIdle fun u =>
      if u.lat.ok then u.startAt [.finishVerdict] else (u.startAt []).failWith (negotiationFailed u.lat.detail)) := rfl

theorem exec_hostReserved7 (s : State) : exec .hostReserved7 s =
    .next (s.refuseOp 7) := rfl

theorem exec_statusRead (s : State) : exec .statusRead s =
    .next { s with hostData := [s.statusWord, s.errcode] } := rfl

theorem exec_cmdFrame (idx : Index) (arg : Long) (s : State) : exec (.cmdFrame idx arg) s =
    .next (s.sendFrame idx arg) := rfl

theorem exec_goIdle (arg : Long) (s : State) : exec (.goIdle arg) s =
    .next (s.sendFrame s.cfg.idxGoIdle arg) := rfl

theorem exec_ifCond (arg : Long) (s : State) : exec (.ifCond arg) s =
    .next (s.sendFrame s.cfg.idxIfCond arg) := rfl

theorem exec_stopTransmission (arg : Long) (s : State) : exec (.stopTransmission arg) s =
    .next ((s.push [fillerExchange]).sendFrame s.cfg.idxStop arg) := rfl

theorem exec_readSingleBlock (arg : Long) (s : State) : exec (.readSingleBlock arg) s =
    .next (s.sendFrame s.cfg.idxReadSingle arg) := rfl

theorem exec_writeSingleBlock (arg : Long) (s : State) : exec (.writeSingleBlock arg) s =
    .next (s.sendFrame s.cfg.idxWriteSingle arg) := rfl

theorem exec_appPrefix (s : State) : exec .appPrefix s =
    .next (s.sendFrame s.cfg.idxAppPrefix Param.appPrefixArg) := rfl

theorem exec_startTokenRead (s : State) : exec .startTokenRead s =
    .next ({ s with bidx := 0, seqpos := s.leaving .tokenPoll }.push [.payloadIn]) := rfl

theorem exec_dataTokenWrite (s : State) : exec .dataTokenWrite s =
    .next (s.push [.op (.exchange s.cfg.dataTokenWrite), .payloadStart]) := rfl

theorem exec_stopToken (s : State) : exec .stopToken s =
    .next (s.push [.op (.exchange s.cfg.stopToken), .tokenSent]) := rfl

theorem exec_r1Valid (flags : BitVec 7) (s : State) : exec (.r1Valid flags) s =
    .next ({ s with npoll := s.npoll - 1, seqpos := s.leaving .responsePoll }.giveByte (r1Byte flags)) := rfl

theorem exec_r1Idle_goIdleTest {s : State} {k : List Point} (h : s.seqpos = .goIdleTest :: k) :
    exec .r1Idle s = .next { s with cardState := .idle, seqpos := .op (.complete 0) :: k } := by
  simp [exec, execR1Idle, h]

theorem exec_r1Ready_finish {s : State} {k : List Point} (h : s.seqpos = .finishVerdict :: k) :
    exec .r1Ready s = .next { s with
      byteAddr := s.lat.ba
      cardState := .ready
      seqpos := .op (.setSpeed .fast) :: .op .release :: .op (.complete 0) :: k } := by
  simp [exec, execR1Ready, h]

theorem exec_r1Ready_read {s : State} {k : List Point} (h : s.seqpos = .readCommand :: k) :
    exec .r1Ready s = .next { s with seqpos := .op (.receiveBlock s.cfg.tRead) :: .readReceived :: k } := by
  simp [exec, execR1Ready, h]

theorem exec_r1Ready_write {s : State} {k : List Point} (h : s.seqpos = .writeCommand :: k) :
    exec .r1Ready s = .next { s with seqpos := .op (.sendBlock s.cfg.dataTokenWrite) :: .writeSent :: k } := by
  simp [exec, execR1Ready, h]

theorem exec_dataRespAccept (high : BitVec 3) (s : State) : exec (.dataRespAccept high) s =
    .next (({ s with seqpos := s.leaving .dataResponse }.giveByte (acceptByte high)).giveOk true) := rfl

theorem exec_cardReadyIdleByte (s : State) : exec .cardReadyIdleByte s =
    .next (({ s with seqpos := s.leaving .readyPoll }.giveByte 0xFF).giveOk true) := rfl

theorem exec_exchange (out : Byte) (s : State) : exec (.exchange out) s =
    .next (s.exchangeByte out) := rfl

theorem exec_select (s : State) : exec .select s =
    .next (s.push [.setCS true, fillerExchange]) := rfl

theorem exec_deselect (s : State) : exec .deselect s =
    .next (s.push [.setCS false, fillerExchange]) := rfl

theorem exec_arm {n : Nat} (s : State) (h : durationFits s.cfg n = true) :
    exec (.arm n) s = .next (s.armTimer n) := by
  simp [exec, execArm, h]

theorem exec_arm_too_long {n : Nat} (s : State) (h : durationFits s.cfg n = false) :
    exec (.arm n) s = .refused (.durationTooLong n) := by
  simp [exec, execArm, h]

theorem exec_tick (s : State) : exec .tick s =
    .next s.tickTimer := rfl

theorem exec_expired (s : State) : exec .expired s =
    .next s.readExpired := rfl

theorem exec_setSpeed (speed : Speed) (s : State) : exec (.setSpeed speed) s =
    .next (s.driveSpeed speed) := rfl

theorem exec_waitReady (t : Nat) (s : State) : exec (.waitReady t) s =
    .next (s.push [.op (.arm t), fillerExchange, .readyPoll]) := rfl

theorem exec_selectAndWait (t : Nat) (s : State) : exec (.selectAndWait t) s =
    .next (s.push [.op .select, .op (.waitReady t), .selected]) := rfl

theorem exec_release (s : State) : exec .release s =
    .next (s.push [.op .deselect]) := rfl

theorem exec_sendCommand (idx : Index) (arg : Long) (app : Bool) (s : State) : exec (.sendCommand idx arg app) s =
    .next ({ s with selto := false }.push
      (if app then [.op (.sendCommand s.cfg.idxAppPrefix Param.appPrefixArg false), .prefixed idx arg]
       else commandPoints s.cfg idx arg)) := rfl

theorem exec_framer (idx : Index) (arg : Long) (app : Bool) (s : State) : exec (.framer idx arg app) s =
    .next (s.push [.op (.sendCommand idx arg app), .latchR1]) := rfl

theorem exec_receiveBlock (t : Nat) (s : State) : exec (.receiveBlock t) s =
    .next (s.push [.op (.arm t), fillerExchange, .tokenPoll]) := rfl

theorem exec_sendBlock (token : Byte) (s : State) : exec (.sendBlock token) s =
    .next (s.push [.op (.waitReady Param.tWriteReady), .blockReady token]) := rfl

theorem exec_sectorArg_block (sector : Long) {s : State} (h : s.byteAddr = false) :
    exec (.sectorArg sector) s = .next { s with ret := { s.ret with arg := sector } } := by
  simp [exec, execSectorArg, h]

theorem exec_sectorArg_byte {sector : Long} {s : State} (h : s.byteAddr = true)
    (hs : sector.toNat < sectorLimit s.cfg) :
    exec (.sectorArg sector) s = .next { s with ret := { s.ret with arg := byteArg s.cfg sector } } := by
  simp [exec, execSectorArg, h, Nat.not_le.mpr hs]

theorem exec_sectorArg_range {sector : Long} {s : State} (h : s.byteAddr = true)
    (hs : sectorLimit s.cfg ≤ sector.toNat) :
    exec (.sectorArg sector) s = .next (s.raiseOpError rangeError) := by
  simp [exec, execSectorArg, h, hs]

theorem exec_classify (r : Byte) (s : State) : exec (.classify r) s =
    .next { s with ret := { s.ret with code := s.classifyCode r } } := rfl

theorem exec_complete (res : Half) (s : State) : exec (.complete res) s =
    .next (s.completeWith res) := rfl

theorem exec_initDummyBlock (s : State) : exec .initDummyBlock s =
    .next (s.push [.setCS false, .dummyStart]) := rfl

theorem exec_powerUpWait (s : State) : exec .powerUpWait s =
    .next (s.push [.op (.arm s.cfg.tPowerup), .op .expired, .powerTest]) := rfl


/-! ## One point of the pseudocode -/

@[simp] theorem pointStep_idle {s : State} (h : s.seqpos = []) : pointStep s = .next s := by
  simp [pointStep, h]

/-- The operation called at SEQPOS runs. -/
theorem pointStep_op {s : State} {i : Instr} {k : List Point} (h : s.seqpos = .op i :: k) :
    pointStep s = exec i { s with seqpos := k } := by
  simp [pointStep, h, testAt, runPoint]

/-- A point that is no test runs. -/
theorem pointStep_point {s : State} {p : Point} {k : List Point} (h : s.seqpos = p :: k) (hp : testAt p s = none) :
    pointStep s = runPoint p { s with seqpos := k } := by
  simp [pointStep, h, hp]

/-- A byte under test that is an operation runs it, with the test still in place. -/
theorem pointStep_test_ok {s : State} {p : Point} {k : List Point} {port : Port} {b : Byte} {i : Instr}
    (h : s.seqpos = p :: k) (hp : testAt p s = some (port, b)) (hd : decode s.cfg port [b] = .ok i) :
    pointStep s = exec i s := by
  simp [pointStep, h, hp, hd]

/-- A byte under test that is no operation takes the other branch. -/
theorem pointStep_test_error {s : State} {p : Point} {k : List Point} {port : Port} {b : Byte} {e : DecodeError}
    (h : s.seqpos = p :: k) (hp : testAt p s = some (port, b)) (hd : decode s.cfg port [b] = .error e) :
    pointStep s = runPoint p { s with seqpos := k } := by
  simp [pointStep, h, hp, hd]

@[simp] theorem pointRun_zero (s : State) : pointRun 0 s = .next s := rfl

theorem pointRun_succ {n : Nat} {s t : State} (h : pointStep s = .next t) : pointRun (n + 1) s = pointRun n t := by
  simp [pointRun, h, andThen]

@[simp] theorem andThen_next (t : State) (f : State → Result) : andThen (.next t) f = f t := rfl
@[simp] theorem andThen_fault (e : Fault) (f : State → Result) : andThen (.fault e) f = .fault e := rfl
@[simp] theorem andThen_refused (e : Refusal) (f : State → Result) : andThen (.refused e) f = .refused e := rfl

/-- What goes on to a next state went through one. -/
theorem andThen_eq_next {r : Result} {f : State → Result} {u : State} :
    andThen r f = .next u ↔ ∃ t, r = .next t ∧ f t = .next u := by
  cases r <;> simp

/-- Runs of points compose. -/
theorem pointRun_add {m n : Nat} {s t : State} (h : pointRun m s = .next t) : pointRun (m + n) s = pointRun n t := by
  induction m generalizing s with
  | zero => cases h; simp
  | succ m ih =>
    obtain ⟨u, hu, h⟩ := andThen_eq_next.mp h
    rw [Nat.succ_add, pointRun_succ hu]
    exact ih h

/-! ## The control flow to the next primitive, and steps of SEQ -/

/-- At IDLE or at a primitive there is nothing to pass. -/
theorem settleFor_settled {n : Nat} {s : State} (h : s.settled = true) : settleFor n s = .next s := by
  cases n <;> simp [settleFor, h]

theorem settle_settled {s : State} (h : s.settled = true) : s.settle = .next s := settleFor_settled h

/-- Anywhere else one point is passed. -/
theorem settleFor_succ {n : Nat} {s t : State} (hs : s.settled = false) (h : pointStep s = .next t) :
    settleFor (n + 1) s = settleFor n t := by
  simp [settleFor, hs, h]

/-- Settling is a run of points. -/
theorem settleFor_pointRun {n : Nat} {s t : State} (h : settleFor n s = .next t) : ∃ m, pointRun m s = .next t := by
  induction n generalizing s with
  | zero => exact ⟨0, h⟩
  | succ n ih =>
    simp only [settleFor] at h
    split at h
    · exact ⟨0, h⟩
    · obtain ⟨u, hu, h⟩ := andThen_eq_next.mp h
      obtain ⟨m, hm⟩ := ih h
      exact ⟨m + 1, by rw [pointRun_succ hu]; exact hm⟩

/-- A step of SEQ is its point and the points after it. -/
theorem seqStep_pointRun {s t : State} (h : seqStep s = .next t) : ∃ m, pointRun (m + 1) s = .next t := by
  obtain ⟨u, hu, h⟩ := andThen_eq_next.mp h
  obtain ⟨m, hm⟩ := settleFor_pointRun h
  exact ⟨m, by rw [pointRun_succ hu]; exact hm⟩

theorem seqRun_zero (s : State) : seqRun 0 s = .next s := rfl

theorem seqRun_succ {n : Nat} {s t : State} (h : seqStep s = .next t) : seqRun (n + 1) s = seqRun n t := by
  simp [seqRun, h]

/-- Runs of SEQ compose. -/
theorem seqRun_add {m n : Nat} {s t : State} (h : seqRun m s = .next t) : seqRun (m + n) s = seqRun n t := by
  induction m generalizing s with
  | zero => cases h; simp
  | succ m ih =>
    obtain ⟨u, hu, h⟩ := andThen_eq_next.mp h
    rw [Nat.succ_add, seqRun_succ hu]
    exact ih h

/-- A run of steps of SEQ is a run of points. -/
theorem seqRun_pointRun {n : Nat} {s t : State} (h : seqRun n s = .next t) : ∃ m, pointRun m s = .next t := by
  induction n generalizing s with
  | zero => exact ⟨0, h⟩
  | succ n ih =>
    obtain ⟨u, hu, h⟩ := andThen_eq_next.mp h
    obtain ⟨a, ha⟩ := seqStep_pointRun hu
    obtain ⟨b, hb⟩ := ih h
    exact ⟨a + 1 + b, by rw [pointRun_add ha]; exact hb⟩

/-! ## One step of the machine -/

/-- A step is the next move of the environment. -/
theorem step_eq {s : State} (h : s.cfg.wellFormed = true) : step s = runEvent s.env.nextEvent s.takeEvent := by
  simp [step, stepNext, h]

theorem step_ill_formed {s : State} (h : s.cfg.wellFormed = false) : step s = .refused .illFormedConfig := by
  simp [step, stepNext, h]

@[simp] theorem Environment.nextEvent_cons (e : Environment) (ev : Event) (evs : List Event) :
    { e with inbox := ev :: evs }.nextEvent = ev := rfl

/-- A move that SEQ's control flow follows is its first act and that control flow. -/
theorem runEvent_moves {e : Event} {s : State} (h : movesSeq e s = true) :
    runEvent e s = andThen (firstAct e s) State.settle := by
  simp [runEvent, h]

/-- Any other move is its first act. -/
theorem runEvent_still {e : Event} {s : State} (h : movesSeq e s = false) : runEvent e s = firstAct e s := by
  simp [runEvent, h]

@[simp] theorem movesSeq_seq (s : State) : movesSeq .seq s = true := rfl
@[simp] theorem movesSeq_tick (s : State) : movesSeq .tick s = false := rfl
@[simp] theorem movesSeq_hostRead (addr : Nat) (s : State) : movesSeq (.hostRead addr) s = false := rfl
@[simp] theorem movesSeq_statusRead (s : State) : movesSeq .statusRead s = false := rfl

/-- A host write is followed by SEQ's control flow only at CTRL and only while BUSY = 0. -/
theorem movesSeq_hostWrite {addr : Nat} {v : Half} {s : State} :
    movesSeq (.hostWrite addr v) s = true ↔ addr = s.cfg.base + ctrlOffset ∧ s.busy = false := by
  simp [movesSeq]

@[simp] theorem runEvent_seq (s : State) : runEvent .seq s = seqStep s := rfl
@[simp] theorem runEvent_tick (s : State) : runEvent .tick s = exec .tick s := rfl
@[simp] theorem runEvent_hostRead (addr : Nat) (s : State) : runEvent (.hostRead addr) s = hostReadAt addr s := rfl
@[simp] theorem runEvent_statusRead (s : State) : runEvent .statusRead s = exec .statusRead s := rfl

/-- The move that stands first in the inbox is the next one, and it is taken out. -/
theorem step_inbox {s : State} {ev : Event} {evs : List Event} (hc : s.cfg.wellFormed = true)
    (h : s.env.inbox = ev :: evs) : step s = runEvent ev { s with env := { s.env with inbox := evs } } := by
  simp [step_eq hc, Environment.nextEvent, State.takeEvent, Environment.afterEvent, h]

end Sys2Proof.Machine
end

