-- ==== Sys2Proof/Laws/PerInstr.lean ====
section
/-! SUPPORT. The family RowWords: the words of every operation have the length of the place they stand at. -/

namespace Sys2Proof.Laws.RowWords

/-- How many bytes a place takes (30_encoding.md R80, R85, R93). -/
def width : Port → Nat
  | .ctrl => 2
  | .hostRead => 4
  | .frame => 6
  | _ => 1

/-- The words of an operation fill the place they stand at. -/
def Statement (i : Instr) : Prop :=
  ∀ (c : Config) (p : Port) (bs : List Byte), encode c i = some (p, bs) → bs.length = width p

theorem hostReserved0 : Statement (.hostReserved0) := by
  rintro c p bs ⟨⟩; rfl
theorem hostInitialize : Statement (.hostInitialize) := by
  rintro c p bs ⟨⟩; rfl
theorem hostReadSector : Statement (.hostReadSector) := by
  rintro c p bs ⟨⟩; rfl
theorem hostWriteSector : Statement (.hostWriteSector) := by
  rintro c p bs ⟨⟩; rfl
theorem hostSendCommand : Statement (.hostSendCommand) := by
  rintro c p bs ⟨⟩; rfl
theorem hostExchange : Statement (.hostExchange) := by
  rintro c p bs ⟨⟩; rfl
theorem hostFinish : Statement (.hostFinish) := by
  rintro c p bs ⟨⟩; rfl
theorem hostReserved7 : Statement (.hostReserved7) := by
  rintro c p bs ⟨⟩; rfl
theorem statusRead : Statement (.statusRead) := by
  rintro c p bs ⟨⟩; rfl
theorem cmdFrame (idx : Index) (arg : Long) : Statement (.cmdFrame idx arg) := by
  rintro c p bs ⟨⟩; rfl
theorem goIdle (arg : Long) : Statement (.goIdle arg) := by
  rintro c p bs ⟨⟩; rfl
theorem ifCond (arg : Long) : Statement (.ifCond arg) := by
  rintro c p bs ⟨⟩; rfl
theorem stopTransmission (arg : Long) : Statement (.stopTransmission arg) := by
  rintro c p bs ⟨⟩; rfl
theorem readSingleBlock (arg : Long) : Statement (.readSingleBlock arg) := by
  rintro c p bs ⟨⟩; rfl
theorem writeSingleBlock (arg : Long) : Statement (.writeSingleBlock arg) := by
  rintro c p bs ⟨⟩; rfl
theorem appPrefix : Statement (.appPrefix) := by
  rintro c p bs ⟨⟩; rfl
theorem startTokenRead : Statement (.startTokenRead) := by
  rintro c p bs ⟨⟩; rfl
theorem dataTokenWrite : Statement (.dataTokenWrite) := by
  rintro c p bs ⟨⟩; rfl
theorem stopToken : Statement (.stopToken) := by
  rintro c p bs ⟨⟩; rfl
theorem r1Valid (flags : BitVec 7) : Statement (.r1Valid flags) := by
  rintro c p bs ⟨⟩; rfl
theorem r1Idle : Statement (.r1Idle) := by
  rintro c p bs ⟨⟩; rfl
theorem r1Ready : Statement (.r1Ready) := by
  rintro c p bs ⟨⟩; rfl
theorem dataRespAccept (high : BitVec 3) : Statement (.dataRespAccept high) := by
  rintro c p bs ⟨⟩; rfl
theorem cardReadyIdleByte : Statement (.cardReadyIdleByte) := by
  rintro c p bs ⟨⟩; rfl
theorem exchange (out : Byte) : Statement (.exchange out) := by
  rintro c p bs ⟨⟩
theorem select : Statement (.select) := by
  rintro c p bs ⟨⟩
theorem deselect : Statement (.deselect) := by
  rintro c p bs ⟨⟩
theorem arm (n : Nat) : Statement (.arm n) := by
  rintro c p bs ⟨⟩
theorem tick : Statement (.tick) := by
  rintro c p bs ⟨⟩
theorem expired : Statement (.expired) := by
  rintro c p bs ⟨⟩
theorem setSpeed (speed : Speed) : Statement (.setSpeed speed) := by
  rintro c p bs ⟨⟩
theorem waitReady (t : Nat) : Statement (.waitReady t) := by
  rintro c p bs ⟨⟩
theorem selectAndWait (t : Nat) : Statement (.selectAndWait t) := by
  rintro c p bs ⟨⟩
theorem release : Statement (.release) := by
  rintro c p bs ⟨⟩
theorem sendCommand (idx : Index) (arg : Long) (app : Bool) : Statement (.sendCommand idx arg app) := by
  rintro c p bs ⟨⟩
theorem framer (idx : Index) (arg : Long) (app : Bool) : Statement (.framer idx arg app) := by
  rintro c p bs ⟨⟩
theorem receiveBlock (t : Nat) : Statement (.receiveBlock t) := by
  rintro c p bs ⟨⟩
theorem sendBlock (token : Byte) : Statement (.sendBlock token) := by
  rintro c p bs ⟨⟩
theorem sectorArg (sector : Long) : Statement (.sectorArg sector) := by
  rintro c p bs ⟨⟩
theorem classify (r : Byte) : Statement (.classify r) := by
  rintro c p bs ⟨⟩
theorem complete (res : Half) : Statement (.complete res) := by
  rintro c p bs ⟨⟩
theorem initDummyBlock : Statement (.initDummyBlock) := by
  rintro c p bs ⟨⟩
theorem powerUpWait : Statement (.powerUpWait) := by
  rintro c p bs ⟨⟩

end Sys2Proof.Laws.RowWords
end

