-- ==== Sys2Proof/Laws/Points.lean ====
section
/-! SUPPORT. What SEQ does at each TEST point, one lemma a branch, and how a run of SEQ goes on past a point. -/

namespace Sys2Proof.Machine

/-! ## A run of SEQ -/

/-- A run goes on past the operation called at SEQPOS. -/
theorem pointRun_op {n : Nat} {s t : State} {i : Instr} {k : List Point} (h : s.seqpos = .op i :: k)
    (he : exec i { s with seqpos := k } = .next t) : pointRun (n + 1) s = pointRun n t :=
  pointRun_succ ((pointStep_op h).trans he)

/-- A run goes on past a point that is no test. -/
theorem pointRun_point {n : Nat} {s t : State} {p : Point} {k : List Point} (h : s.seqpos = p :: k)
    (hp : testAt p s = none) (he : runPoint p { s with seqpos := k } = .next t) : pointRun (n + 1) s = pointRun n t :=
  pointRun_succ ((pointStep_point h hp).trans he)

/-! ## The tests -/

/-- 0xFF in the ready poll. -/
theorem pointStep_readyPoll_ready {s : State} {k : List Point} (h : s.seqpos = .readyPoll :: k)
    (hb : s.ret.byte = 0xFF#8) :
    pointStep s = .next { s with seqpos := k, ret := { s.ret with byte := 0xFF#8, ok := true } } := by
  rw [pointStep_test_ok (i := .cardReadyIdleByte) h rfl (by simp [decode, decodeByte, hb])]
  simp [exec_cardReadyIdleByte, State.leaving, h, State.giveByte, State.giveOk]

/-- Another byte in the ready poll. -/
theorem pointStep_readyPoll_other {s : State} {k : List Point} (h : s.seqpos = .readyPoll :: k)
    (hb : s.ret.byte ≠ 0xFF#8) :
    pointStep s = .next { s with seqpos := .op .expired :: .readyExpired :: k } := by
  rw [pointStep_test_error (e := .noSpecialMeaning) h rfl (by simp [decode, decodeByte, hb])]
  rfl

/-- A byte with bit 7 clear in the response poll. -/
theorem pointStep_responsePoll_valid {s : State} {k : List Point} (h : s.seqpos = .responsePoll :: k)
    (hb : s.ret.byte.getLsbD 7 = false) :
    pointStep s = .next { s with npoll := s.npoll - 1, seqpos := k } := by
  have hr : r1Byte (s.ret.byte.extractLsb' 0 7) = s.ret.byte := by
    generalize s.ret.byte = b at hb ⊢
    revert b; decide
  rw [pointStep_test_ok (i := .r1Valid (s.ret.byte.extractLsb' 0 7)) h rfl (by simp only [decode, decodeByte, r1IsValid, hb]; rfl)]
  simp [exec_r1Valid, State.leaving, h, State.giveByte, hr]

/-- A byte with bit 7 set in the response poll. -/
theorem pointStep_responsePoll_other {s : State} {k : List Point} (h : s.seqpos = .responsePoll :: k)
    (hb : s.ret.byte.getLsbD 7 = true) :
    pointStep s = .next { s with
      npoll := s.npoll - 1
      seqpos := if s.npoll - 1 = 0 then k else fillerExchange :: .responsePoll :: k } := by
  rw [pointStep_test_error (e := .noSpecialMeaning) h rfl (by simp only [decode, decodeByte, r1IsValid, hb]; rfl)]
  simp only [runPoint, otherResponsePoll]
  split <;> simp_all [State.push]

/-- 0xFE in the start-token poll. -/
theorem pointStep_tokenPoll_start {s : State} {k : List Point} (h : s.seqpos = .tokenPoll :: k)
    (hb : s.ret.byte = 0xFE#8) : pointStep s = .next { s with bidx := 0, seqpos := .payloadIn :: k } := by
  rw [pointStep_test_ok (i := .startTokenRead) h rfl (by simp [decode, decodeByte, Param.startToken, hb])]
  simp [exec_startTokenRead, State.leaving, h, State.push]

/-- 0xFF in the start-token poll. -/
theorem pointStep_tokenPoll_filler {s : State} {k : List Point} (h : s.seqpos = .tokenPoll :: k)
    (hb : s.ret.byte = 0xFF#8) : pointStep s = .next { s with seqpos := .op .expired :: .tokenExpired :: k } := by
  rw [pointStep_test_error (e := .noSpecialMeaning) h rfl (by simp [decode, decodeByte, Param.startToken, hb])]
  simp [runPoint, otherTokenPoll, hb, Param.filler, State.push]

/-- Another byte in the start-token poll. -/
theorem pointStep_tokenPoll_other {s : State} {k : List Point} (h : s.seqpos = .tokenPoll :: k)
    (hf : s.ret.byte ≠ 0xFF#8) (hb : s.ret.byte ≠ 0xFE#8) :
    pointStep s = .next { s with seqpos := k, ret := { s.ret with ok := false } } := by
  rw [pointStep_test_error (e := .noSpecialMeaning) h rfl (by simp [decode, decodeByte, Param.startToken, hb])]
  simp [runPoint, otherTokenPoll, hf, Param.filler, State.giveOk]

/-- The data response. -/
theorem pointStep_dataResponse {s : State} {k : List Point} (h : s.seqpos = .dataResponse :: k) :
    pointStep s = .next { s with
      seqpos := k, ret := { s.ret with ok := decide (s.ret.byte &&& 0x1F#8 = 0x05#8) } } := by
  by_cases hb : s.ret.byte &&& 0x1F#8 = 0x05#8
  · have hr : acceptByte (s.ret.byte.extractLsb' 5 3) = s.ret.byte := by
      generalize s.ret.byte = b at hb ⊢
      revert b; decide
    rw [pointStep_test_ok (i := .dataRespAccept (s.ret.byte.extractLsb' 5 3)) h rfl
      (by simp [decode, decodeByte, isAccepted, Param.dataRespMask, Param.dataRespAccept, hb])]
    simp [exec_dataRespAccept, State.leaving, h, State.giveByte, State.giveOk, hr, hb]
  · rw [pointStep_test_error (e := .noSpecialMeaning) h rfl
      (by simp [decode, decodeByte, isAccepted, Param.dataRespMask, Param.dataRespAccept, hb])]
    simp [runPoint, otherDataResponse, State.giveOk, hb]

/-- 0x01 at the go-idle test. -/
theorem pointStep_goIdleTest_idle {s : State} {k : List Point} (h : s.seqpos = .goIdleTest :: k)
    (hb : s.ret.byte = 0x01#8) :
    pointStep s = .next { s with cardState := .idle, seqpos := .op (.complete 0) :: k } := by
  rw [pointStep_test_ok (i := .r1Idle) h rfl (by simp [decode, decodeByte, hb])]
  exact exec_r1Idle_goIdleTest h

/-- Another response at the go-idle test. -/
theorem pointStep_goIdleTest_other {s : State} {k : List Point} (h : s.seqpos = .goIdleTest :: k)
    (hb : s.ret.byte ≠ 0x01#8) : pointStep s = otherGoIdleTest { s with seqpos := k } := by
  rw [pointStep_test_error (e := .noSpecialMeaning) h rfl (by simp [decode, decodeByte, hb])]
  rfl

/-- 0x00 at READ_SECTOR's test. -/
theorem pointStep_readCommand_ready {s : State} {k : List Point} (h : s.seqpos = .readCommand :: k)
    (hb : s.ret.byte = 0x00#8) :
    pointStep s = .next { s with seqpos := .op (.receiveBlock s.cfg.tRead) :: .readReceived :: k } := by
  rw [pointStep_test_ok (i := .r1Ready) h rfl (by simp [decode, decodeByte, hb])]
  exact exec_r1Ready_read h

/-- Another response at READ_SECTOR's test. -/
theorem pointStep_readCommand_other {s : State} {k : List Point} (h : s.seqpos = .readCommand :: k)
    (hb : s.ret.byte ≠ 0x00#8) : pointStep s = .next ({ s with seqpos := k }.refuseResponse) := by
  rw [pointStep_test_error (e := .noSpecialMeaning) h rfl (by simp [decode, decodeByte, hb])]
  rfl

/-- 0x00 at WRITE_SECTOR's test. -/
theorem pointStep_writeCommand_ready {s : State} {k : List Point} (h : s.seqpos = .writeCommand :: k)
    (hb : s.ret.byte = 0x00#8) :
    pointStep s = .next { s with seqpos := .op (.sendBlock s.cfg.dataTokenWrite) :: .writeSent :: k } := by
  rw [pointStep_test_ok (i := .r1Ready) h rfl (by simp [decode, decodeByte, hb])]
  exact exec_r1Ready_write h

/-- Another response at WRITE_SECTOR's test. -/
theorem pointStep_writeCommand_other {s : State} {k : List Point} (h : s.seqpos = .writeCommand :: k)
    (hb : s.ret.byte ≠ 0x00#8) : pointStep s = .next ({ s with seqpos := k }.refuseResponse) := by
  rw [pointStep_test_error (e := .noSpecialMeaning) h rfl (by simp [decode, decodeByte, hb])]
  rfl

/-- LASTR1 = 0x00 at FINISH's test. -/
theorem pointStep_finishVerdict_ready {s : State} {k : List Point} (h : s.seqpos = .finishVerdict :: k)
    (hb : s.lastR1 = 0x00#8) :
    pointStep s = .next { s with
      byteAddr := s.lat.ba
      cardState := .ready
      seqpos := .op (.setSpeed .fast) :: .op .release :: .op (.complete 0) :: k } := by
  rw [pointStep_test_ok (i := .r1Ready) h rfl (by simp [decode, decodeByte, hb])]
  exact exec_r1Ready_finish h

/-- Another LASTR1 at FINISH's test. -/
theorem pointStep_finishVerdict_other {s : State} {k : List Point} (h : s.seqpos = .finishVerdict :: k)
    (hb : s.lastR1 ≠ 0x00#8) :
    pointStep s = .next ({ s with seqpos := k }.failWith (readyRefused s.lastR1)) := by
  rw [pointStep_test_error (e := .noSpecialMeaning) h rfl (by simp [decode, decodeByte, hb])]
  rfl

/-! ## A host operation's issue -/

/-- A CTRL write while BUSY = 1 is the overrun. -/
theorem State.hostOp_busy {s : State} (body : State → State) (h : s.busy = true) :
    s.hostOp body = { s with ovr := true } := by simp [State.hostOp, h]

/-- A CTRL write while BUSY = 0 issues the operation. -/
theorem State.hostOp_idle {s : State} (body : State → State) (h : s.busy = false) :
    s.hostOp body = body s.issue := by simp [State.hostOp, h]

/-! ## What the card answers -/

@[simp] theorem Environment.answers_length (n : Nat) (e : Environment) : (e.answers n).length = n := by
  induction n generalizing e with
  | zero => rfl
  | succ n ih => simp [Environment.answers, ih]

theorem Environment.answers_add (m n : Nat) (e : Environment) :
    e.answers (m + n) = e.answers m ++ (e.afterAnswers m).answers n := by
  induction m generalizing e with
  | zero => simp [Environment.answers, Environment.afterAnswers]
  | succ m ih => simp [Nat.succ_add, Environment.answers, Environment.afterAnswers, ih]

theorem Environment.afterAnswers_add (m n : Nat) (e : Environment) :
    e.afterAnswers (m + n) = (e.afterAnswers m).afterAnswers n := by
  induction m generalizing e with
  | zero => simp [Environment.afterAnswers]
  | succ m ih => simp [Nat.succ_add, Environment.afterAnswers, ih]

end Sys2Proof.Machine
end

