-- ==== Sys2Proof/Tests/Slice0.lean ====
section
/-! SUPPORT. Tests of the model on fixed values, and for each statement with hypotheses values that meet them together. The
expected values come from 95_test_vectors.md or are worked out by hand from the rule a comment names. -/

namespace Sys2Proof.Tests

open Sys2Proof Sys2Proof.Machine

/-! ## Helpers -/

/-- The reset state at `ps`, with an operation in progress unless `ps` is empty. -/
def atPoints (ps : List Point) : State := { State.reset with seqpos := ps, busy := !ps.isEmpty }

/-- `s` with the card's next answers. -/
def withCard (s : State) (bs : List Byte) : State := { s with env := { s.env with card := bs } }

/-- `s` with the next moves of the agents. -/
def withMoves (s : State) (evs : List Event) : State := { s with env := { s.env with inbox := evs } }

/-- `s` with the byte returned last. -/
def withByte (s : State) (b : Byte) : State := { s with ret := { s.ret with byte := b } }

/-- `s` with the Boolean returned last. -/
def withOk (s : State) (b : Bool) : State := { s with ret := { s.ret with ok := b } }

/-- A field of the next state, if there is one. -/
def got {α : Type} (r : Result) (f : State → α) : Option α :=
  match r with
  | .next t => some (f t)
  | .fault _ => none
  | .refused _ => none

/-- The operation decoded from bytes, if they are one. -/
def read (p : Port) (bs : List Byte) : Option Instr := (decode .default p bs).toOption

/-! ## WellFormed refuses what is ill formed -/

theorem test_wf_arm_too_long : Instr.wellFormed .default (.arm 65536) = false := by decide
theorem test_wf_waitReady_too_long : Instr.wellFormed .default (.waitReady 65536) = false := by decide
theorem test_wf_selectAndWait_too_long : Instr.wellFormed .default (.selectAndWait 70000) = false := by decide
theorem test_wf_receiveBlock_too_long : Instr.wellFormed .default (.receiveBlock 65536) = false := by decide
theorem test_wf_cmdFrame_own_row : Instr.wellFormed .default (.cmdFrame 17 0) = false := by decide
theorem test_wf_cmdFrame_prefix_row : Instr.wellFormed .default (.cmdFrame 55 0) = false := by decide
theorem test_wf_cmdFrame_other_prefix_arg : Instr.wellFormed .default (.cmdFrame 55 1) = true := by decide
theorem test_wf_config_select : Config.wellFormed { Config.default with tSelect := 65536 } = false := by decide
theorem test_wf_config_read : Config.wellFormed { Config.default with tRead := 65536 } = false := by decide
theorem test_wf_config_powerup_zero : Config.wellFormed { Config.default with tPowerup := 0 } = false := by decide
theorem test_wf_config_powerup_long : Config.wellFormed { Config.default with tPowerup := 65536 } = false := by decide
-- T_WRITE_READY, 500, needs 9 bits.
theorem test_wf_config_width8 : Config.wellFormed { Config.default with tcountWidth := 8, tSelect := 9, tRead := 9 } = false := by
  decide
theorem test_wf_config_width9 : Config.wellFormed { Config.default with tcountWidth := 9 } = true := by decide
theorem test_wf_config_default : Config.wellFormed .default = true := by decide
theorem test_rows_default : Config.rowsDistinct .default = true := by decide
theorem test_rows_same_index : Config.rowsDistinct { Config.default with idxStop := 17 } = false := by decide
theorem test_rows_same_token : Config.rowsDistinct { Config.default with stopToken := 0xFE } = false := by decide

/-! ## Decoding, one word a constructor, written out from 30_encoding.md -/

-- R93, R94: OP is CTRL bits 2:0, the value little-endian.
theorem test_decode_reserved0 : read .ctrl [0b00000000, 0] = some .hostReserved0 := by decide
theorem test_decode_initialize : read .ctrl [0b00000001, 0] = some .hostInitialize := by decide
theorem test_decode_readSector : read .ctrl [0b00000010, 0] = some .hostReadSector := by decide
theorem test_decode_writeSector : read .ctrl [0b00000011, 0] = some .hostWriteSector := by decide
theorem test_decode_sendCommand : read .ctrl [0b00000100, 0] = some .hostSendCommand := by decide
theorem test_decode_hostExchange : read .ctrl [0b00000101, 0] = some .hostExchange := by decide
theorem test_decode_finish : read .ctrl [0b11111110, 0xFF] = some .hostFinish := by decide
theorem test_decode_reserved7 : read .ctrl [0b00000111, 0x80] = some .hostReserved7 := by decide
-- R249: STATUS at 0x002 and ERRCODE at 0x016.
theorem test_decode_statusRead : read .hostRead [0x02, 0, 0x16, 0] = some .statusRead := by decide
theorem test_decode_other_registers : read .hostRead [0x02, 0, 0x14, 0] = none := by decide
-- R80 to R83: 01 ++ index, the argument most significant byte first, the CRC byte (V-FR-2 to V-FR-7).
theorem test_decode_goIdle : read .frame [0b01000000, 0, 0, 0, 0, 0x95] = some (.goIdle 0) := by decide
theorem test_decode_ifCond : read .frame [0b01001000, 0, 0, 0x01, 0xAA, 0x87] = some (.ifCond 0x1AA) := by decide
theorem test_decode_stopTransmission :
    read .frame [0b01001100, 0, 0, 0, 0, 0x01] = some (.stopTransmission 0) := by decide
theorem test_decode_readSingleBlock :
    read .frame [0b01010001, 0, 0, 0, 5, 0x01] = some (.readSingleBlock 5) := by decide
theorem test_decode_writeSingleBlock :
    read .frame [0b01011000, 0, 0, 0, 7, 0x01] = some (.writeSingleBlock 7) := by decide
theorem test_decode_appPrefix : read .frame [0b01110111, 0, 0, 0, 0, 0x01] = some .appPrefix := by decide
theorem test_decode_cmdFrame :
    read .frame [0b01111111, 0x12, 0x34, 0x56, 0x78, 0x01] = some (.cmdFrame 63 0x12345678) := by decide
theorem test_decode_bad_start : read .frame [0b11000000, 0, 0, 0, 0, 0x95] = none := by decide
theorem test_decode_bad_crc : read .frame [0b01000000, 0, 0, 0, 0, 0x01] = none := by decide
theorem test_decode_short_frame : read .frame [0b01000000, 0, 0, 0, 0] = none := by decide
-- R88, R90, R91.
theorem test_decode_startTokenRead : read .tokenPoll [0xFE] = some .startTokenRead := by decide
theorem test_decode_dataTokenWrite : read .sentToken [0xFE] = some .dataTokenWrite := by decide
theorem test_decode_stopToken : read .sentToken [0xFD] = some .stopToken := by decide
-- R86, R89 and 41_card_selector.md R130.
theorem test_decode_r1Valid : read .responsePoll [0x7F] = some (.r1Valid 0x7F) := by decide
theorem test_decode_r1Idle : read .goIdleTest [0x01] = some .r1Idle := by decide
theorem test_decode_r1Ready : read .readyTest [0x00] = some .r1Ready := by decide
theorem test_decode_accept : read .dataResponse [0xE5] = some (.dataRespAccept 7) := by decide
theorem test_decode_reject : read .dataResponse [0x1D] = none := by decide
theorem test_decode_ready : read .readyPoll [0xFF] = some .cardReadyIdleByte := by decide

-- The same operations from the words of the table.
theorem test_word_ctrl : decodeTableWord 16 0xFFFE = some .hostFinish := by decide
theorem test_word_frame : decodeTableWord 48 0x510000000501 = some (.readSingleBlock 5) := by decide
theorem test_word_token : decodeTableWord 8 0xFD = some .stopToken := by decide
theorem test_word_bad_width : decodeTableWord 24 0 = none := by decide

/-! ## One step each -/

-- V-TT-5: `A5/3C`.
theorem test_exchange :
    got (exec (.exchange 0xA5) (withCard State.reset [0x3C])) (fun t => (t.wire, t.ret.byte)) =
      some ([.exch 0xA5 0x3C], 0x3C) := by decide
-- V-TT-1 and V-TT-4.
theorem test_arm : got (exec (.arm 65535) State.reset) (·.tcount) = some 65535 := by decide
theorem test_arm_too_long : got (exec (.arm 65536) State.reset) (·.tcount) = none := by decide
theorem test_tick : got (exec .tick { State.reset with tcount := 3 }) (·.tcount) = some 2 := by decide
theorem test_tick_saturates : got (exec .tick State.reset) (·.tcount) = some 0 := by decide
theorem test_expired : got (exec .expired { State.reset with tcount := 1 }) (·.ret.ok) = some false := by decide
theorem test_expired_zero : got (exec .expired State.reset) (·.ret.ok) = some true := by decide
-- 40_transport_timer.md R118.
theorem test_setSpeed : got (exec (.setSpeed .fast) State.reset) (·.speed) = some .fast := by decide
-- R111, R112 and R132: the calls each makes.
theorem test_select : got (exec .select State.reset) (·.seqpos) = some [.setCS true, .op (.exchange 0xFF)] := by decide
theorem test_deselect : got (exec .deselect State.reset) (·.seqpos) = some [.setCS false, .op (.exchange 0xFF)] := by
  decide
theorem test_release : got (exec .release State.reset) (·.seqpos) = some [.op .deselect] := by decide
-- R154: the stop frame is followed by a filler.
theorem test_stopTransmission :
    got (exec (.stopTransmission 0) State.reset) (·.seqpos) =
      some [.op (.exchange 0x4C), .op (.exchange 0), .op (.exchange 0), .op (.exchange 0), .op (.exchange 0),
        .op (.exchange 0x01), .op (.exchange 0xFF)] := by decide
-- R151: `r0 > 1`, so 0x01 goes on and 0x02 does not.
theorem test_prefixed_stops :
    got (pointStep (withByte (atPoints [.prefixed 41 0, .respond]) 0x02)) (·.seqpos) = some [.respond] := by decide
theorem test_prefixed_goes_on :
    got (pointStep (withByte (atPoints [.prefixed 12 0, .respond]) 0x01)) (·.seqpos) =
      some [.op (.stopTransmission 0), .pollStart, .respond] := by decide
-- R155: bit 7 alone decides.
theorem test_responsePoll_last :
    got (pointStep { withByte (atPoints [.responsePoll, .respond]) 0x80 with npoll := 1 }) (·.seqpos) =
      some [.respond] := by decide
theorem test_responsePoll_more :
    got (pointStep { withByte (atPoints [.responsePoll, .respond]) 0x80 with npoll := 2 }) (·.seqpos) =
      some [.op (.exchange 0xFF), .responsePoll, .respond] := by decide
-- R182: the byte goes to BUF[BIDX].
theorem test_storeByte :
    got (pointStep { withByte (atPoints [.storeByte, .respond]) 0x5A with bidx := 511 })
      (fun t => (t.buf, t.bidx)) = some ([(511, 0x5A)], 512) := by decide
-- V-BLK-6: 0x1D is a rejection.
theorem test_dataResponse_rejects :
    got (pointStep (withOk (withByte (atPoints [.dataResponse, .respond]) 0x1D) true)) (·.ret.ok) = some false := by decide
theorem test_dataResponse_accepts :
    got (pointStep (withByte (atPoints [.dataResponse, .respond]) 0xE5)) (·.ret.ok) = some true := by decide
-- R244: the last sector index of byte addressing and the first one refused.
theorem test_sectorArg_last :
    got (exec (.sectorArg 0x007FFFFF) { State.reset with byteAddr := true }) (·.ret.arg) = some 0xFFFFFE00 := by decide
theorem test_sectorArg_range :
    got (exec (.sectorArg 0x00800000) { State.reset with byteAddr := true }) (·.seqpos) =
      some [.op (.complete 0xF700)] := by decide
-- R253.
theorem test_classify_r1 : got (exec (.classify 0x01) State.reset) (·.ret.code) = some 0x0401 := by decide
theorem test_classify_timeout : got (exec (.classify 0xFF) State.reset) (·.ret.code) = some 0x03FF := by decide
-- R248: FINISH right after INITIALIZE sees LASTR1 = 0x01 and fails with 0x0C01.
theorem test_finish_refused :
    got (pointStep { atPoints [.finishVerdict] with lastR1 := 0x01 }) (·.cardState) = some (.error 0x0C01) := by decide
-- R243: NOT_READY in Idle is 0x0701.
theorem test_readSector_notReady :
    got (exec .hostReadSector { State.reset with cardState := .idle }) (·.seqpos) = some [.op (.complete 0xF8FF)] := by
  decide
-- R241.
theorem test_ctrl_overrun :
    got (exec .hostInitialize { State.reset with busy := true, cardState := .ready }) (fun t => (t.ovr, t.cardState)) =
      some (true, .ready) := by decide
-- R35 at reset, and with every flag set in the Error state.
theorem test_status_reset : State.reset.statusWord = 0x0000 := by decide
theorem test_status_all :
    State.statusWord { State.reset with
      busy := true, ovr := true, csa := true, speed := .fast, byteAddr := true, cardState := .error 1, selto := true } =
      0x00FF := by decide
-- R66 and R72: BUF address 3 sits at offset 0x203.
theorem test_buf_write :
    got (step (withMoves State.reset [.hostWrite 0x203 0xAB7C])) (·.buf) = some [(3, 0x7C)] := by decide
-- R37: CMD bits 15:7 are dropped.
theorem test_cmd_write : got (step (withMoves State.reset [.hostWrite 0x008 0xFFFF])) (·.win.cmd) = some 0x007F := by
  decide

-- R6: the last exchange and the completion are one step, and so is a reserved op code.
theorem test_exchange_completes_in_one_step :
    got (andThen (exec .hostExchange { State.reset with cardState := .idle, env := { State.reset.env with card := [0x77] } }) seqStep)
      (fun t => (t.busy, t.win.resp, t.wire)) = some (false, 0x0077, [.exch 0 0x77]) := by decide
theorem test_reserved_completes_in_the_ctrl_write :
    got (step (withMoves State.reset [.hostWrite 0 7])) (fun t => (t.busy, t.win.result, t.wire)) =
      some (false, 0xF5F9, []) := by decide

/-! ## Values that meet the hypotheses of the statements -/

theorem test_hyp_DecodeEncodeRoundTrip :
    Config.rowsDistinct .default = true ∧ Instr.wellFormed .default (.cmdFrame 63 0xFFFFFFFF) = true ∧
      encode .default (.cmdFrame 63 0xFFFFFFFF) = some (.frame, [0x7F, 0xFF, 0xFF, 0xFF, 0xFF, 0x01]) := by decide

theorem test_hyp_StepRunsDecodedOperation_op :
    let s := withMoves (atPoints [.op .release, .respond]) [.seq]
    s.cfg.wellFormed = true ∧ s.env.inbox = [.seq] ∧ s.seqpos = [.op .release, .respond] := by decide
theorem test_hyp_StepRunsDecodedOperation_word :
    let s := withMoves (atPoints [.word 8 0xFD, .respond]) [.seq]
    s.env.inbox = [.seq] ∧ s.seqpos = [.word 8 0xFD, .respond] ∧ decodeTableWord 8 0xFD = some .stopToken := by decide
theorem test_hyp_StepRunsDecodedOperation_test :
    let s := withByte (withMoves (atPoints [.goIdleTest]) [.seq]) 0x01
    s.seqpos = [.goIdleTest] ∧ testAt .goIdleTest s = some (.goIdleTest, 0x01) ∧
      (decode s.cfg .goIdleTest [0x01]).toOption = some .r1Idle := by decide
theorem test_hyp_StepRunsDecodedOperation_host :
    (withMoves State.reset [.hostWrite (0 + ctrlOffset) 6]).env.inbox = [.hostWrite 0 6] ∧
      (withMoves State.reset [.tick]).env.inbox = [.tick] ∧
      (withMoves State.reset [.statusRead]).env.inbox = [.statusRead] ∧ State.reset.seqpos = [] := by decide

/-- The invariant of a state whose fields are all at hand. -/
theorem inv_of (s : State) (hp : s.BufCanonical ∧ s.TcountFits ∧ s.CodeFaithful ∧ s.ReservedZero ∧ s.OperationOpen)
    (hs : s.StoreInRange) (hn : s.PointsNative) (hf : s.PhaseFits) (h : s.settled = true) : s.Inv :=
  ⟨⟨hp.1, hp.2.1, hp.2.2.1, hp.2.2.2.1, hp.2.2.2.2, hs, hn, hf⟩, h⟩

theorem test_hyp_Inv : State.reset.Inv :=
  inv_of _ (by decide) (by simp [State.StoreInRange, State.reset]) (by decide) (by decide) (by decide)

theorem test_hyp_StepKeepsInvariant :
    (withMoves State.reset [.hostWrite 0 1]).Inv ∧
      got (step (withMoves State.reset [.hostWrite 0 1])) (·.seqpos) =
        some [.op (.setSpeed .slow), .op .powerUpWait, .firstAttempt] :=
  ⟨inv_of _ (by decide) (by simp [State.StoreInRange, State.reset, withMoves]) (by decide) (by decide) (by decide), by decide⟩

/-- In the middle of a payload: a store pending behind its exchange, at the last address. -/
theorem test_hyp_SeqStepIsOneEvent :
    let s : State := { atPoints [.op (.exchange 0xFF), .storeByte, .payloadIn, .readReceived] with bidx := 511 }
    s.Inv ∧ s.cfg.wellFormed = true ∧ s.seqpos ≠ [] :=
  ⟨inv_of _ (by decide) (by simp [State.StoreInRange, atPoints, Param.blockLen]) (by decide) (by decide) (by decide),
    by decide, by decide⟩

theorem test_hyp_SeqStepIsOneEvent_step : got (step (withMoves State.reset [.tick])) (·.wire) = some [.tick] := by decide

theorem test_hyp_MachineNeverStops :
    let s := withMoves State.reset [.hostRead 0x3FF]
    s.Inv ∧ s.cfg.wellFormed = true ∧ eventInWindow s.cfg s.env.nextEvent = true :=
  ⟨inv_of _ (by decide) (by simp [State.StoreInRange, State.reset, withMoves]) (by decide) (by decide) (by decide),
    by decide, by decide⟩

/-- What holds at a point that stands last and stores nothing. -/
theorem sound_atPoint (s : State)
    (hp : s.BufCanonical ∧ s.TcountFits ∧ s.CodeFaithful ∧ s.ReservedZero ∧ s.OperationOpen)
    (hs : .storeByte ∉ s.seqpos ∧ ∀ p ∈ s.seqpos.head?, p ≠ .storeByte ∧ s.seqpos.tail.head? ≠ some .storeByte)
    (hn : s.PointsNative) (hf : s.PhaseFits) : s.Sound := by
  refine ⟨hp.1, hp.2.1, hp.2.2.1, hp.2.2.2.1, hp.2.2.2.2, ?_, hn, hf⟩
  unfold State.StoreInRange
  split
  · simp_all
  · simp_all
  · exact hs.1

theorem test_hyp_CardStateWriters :
    let s := withByte (atPoints [.goIdleTest]) 0x01
    s.Sound ∧ got (firstAct .seq s) (·.cardState) = some .idle :=
  ⟨sound_atPoint _ (by decide) (by decide) (by decide) (by decide), by decide⟩
theorem test_hyp_CardStateWriters_noResponse :
    let s : State := { withByte (atPoints [.goIdleTest]) 0xFF with attempt := 255 }
    s.Sound ∧ got (firstAct .seq s) (·.cardState) = some (.error 0x01FF) :=
  ⟨sound_atPoint _ (by decide) (by decide) (by decide) (by decide), by decide⟩
theorem test_hyp_CardStateWriters_initialize :
    let s : State := { State.reset with cardState := .error 0x01FF }
    s.Sound ∧ got (firstAct (.hostWrite 0 1) s) (·.cardState) = some .uninitialized :=
  ⟨sound_atPoint _ (by decide) (by decide) (by decide) (by decide), by decide⟩
theorem test_hyp_CardStateWriters_finish :
    let s : State := { State.reset with cardState := .idle, win := { State.reset.win with fin := 0x5A00 } }
    s.Sound ∧ got (firstAct (.hostWrite 0 6) s) (·.cardState) = some (.error 0x085A) :=
  ⟨sound_atPoint _ (by decide) (by decide) (by decide) (by decide), by decide⟩
theorem test_hyp_CardStateWriters_ready :
    let s : State := { atPoints [.finishVerdict] with cardState := .idle, lastR1 := 0 }
    s.Sound ∧ got (firstAct .seq s) (·.cardState) = some .ready ∧
      got (firstAct .seq { s with lastR1 := 5 }) (·.cardState) = some (.error 0x0C05) :=
  ⟨sound_atPoint _ (by decide) (by decide) (by decide) (by decide), by decide, by decide⟩

theorem test_hyp_LineTimer_tick :
    let s : State := { State.reset with tcount := 1 }
    s.Sound ∧ got (firstAct .tick s) (·.tcount) = some 0 :=
  ⟨sound_atPoint _ (by decide) (by decide) (by decide) (by decide), by decide⟩
theorem test_hyp_LineTimer_arm :
    let s := atPoints [.op (.arm 9), .respond]
    s.Sound ∧ got (firstAct .seq s) (·.tcount) = some 9 :=
  ⟨sound_atPoint _ (by decide) (by decide) (by decide) (by decide), by decide⟩
theorem test_hyp_LineTimer_csa : got (firstAct .seq (atPoints [.setCS true, .respond])) (·.csa) = some true := by decide
theorem test_hyp_LineTimer_speed :
    got (firstAct .seq (atPoints [.op (.setSpeed .fast), .respond])) (·.speed) = some .fast := by decide
theorem test_hyp_LineTimer_byteAddr :
    let s : State := { atPoints [.finishVerdict] with
      cardState := .idle, lastR1 := 0, lat := { State.reset.lat with ba := true } }
    s.Sound ∧ got (firstAct .seq s) (·.byteAddr) = some true :=
  ⟨sound_atPoint _ (by decide) (by decide) (by decide) (by decide), by decide⟩
theorem test_hyp_LineTimer_byteAddr_cleared :
    got (firstAct (.hostWrite 0 1) { State.reset with byteAddr := true }) (·.byteAddr) = some false := by decide
theorem test_hyp_LineTimer_lastR1 :
    got (firstAct .seq (withByte (atPoints [.latchR1, .respond]) 0x05)) (·.lastR1) = some 0x05 := by decide

theorem test_hyp_SeltoWriters_set :
    got (firstAct .seq (atPoints [.commandSelected 17 0, .readCommand])) (·.selto) = some true := by decide
theorem test_hyp_SeltoWriters_block :
    got (firstAct .seq (atPoints [.blockReady 0xFE, .writeSent])) (·.selto) = some true := by decide
theorem test_hyp_SeltoWriters_clear :
    got (firstAct .seq { atPoints [.op (.sendCommand 17 0 false), .readCommand] with selto := true }) (·.selto) =
      some false := by decide

theorem test_hyp_HandshakeWriters_sets :
    State.reset.Sound ∧ got (firstAct (.hostWrite 0 1) State.reset) (·.busy) = some true :=
  ⟨test_hyp_Inv.sound, by decide⟩
theorem test_hyp_HandshakeWriters_clears :
    let s := atPoints [.op (.complete 5)]
    s.Sound ∧ s.eventInstr? .seq = some (.complete 5) ∧
      got (firstAct .seq s) (fun t => (t.busy, t.win.result)) = some (false, 5) :=
  ⟨sound_atPoint _ (by decide) (by decide) (by decide) (by decide), by decide, by decide⟩
theorem test_hyp_HandshakeWriters_ovr :
    (atPoints [.respond]).Sound ∧ got (firstAct (.hostWrite 0x3FF 0) (atPoints [.respond])) (·.ovr) = some true ∧
      got (firstAct (.hostWrite 2 2) { State.reset with ovr := true }) (·.ovr) = some false :=
  ⟨sound_atPoint _ (by decide) (by decide) (by decide) (by decide), by decide, by decide⟩
theorem test_hyp_HandshakeWriters_resp :
    got (firstAct .seq (withByte (atPoints [.respond]) 0x01)) (·.win.resp) = some 0x0001 := by decide

theorem test_hyp_BufWriters_seq :
    got (firstAct .seq (withByte (atPoints [.storeByte, .respond]) 0x5A)) (·.bufRead 0) = some 0x5A := by decide
theorem test_hyp_BufWriters_host :
    got (firstAct (.hostWrite 0x3FF 0x11) State.reset) (·.bufRead 511) = some 0x11 := by decide

theorem test_hyp_TimerLaws :
    let s := withMoves State.reset (List.replicate 3 .tick)
    s.cfg.wellFormed = true ∧ 3 ≤ s.cfg.maxDuration ∧ s.env.inbox = List.replicate 3 .tick ∧ got (exec (.arm 3) s) (·.tcount) = some 3 := by decide

theorem test_hyp_WaitReadyReturnsTrueAtFF :
    (withCard State.reset [0x00, 0xFE, 0xFF]).env.answers 3 = [0x00, 0xFE] ++ [0xFF] ∧
      (withCard State.reset [0xFF]).env.answers 1 = [] ++ [0xFF] := by decide

theorem test_hyp_ReadyPollEnds :
    (atPoints [.readyPoll, .respond]).seqpos = [.readyPoll, .respond] ∧
      (withByte (atPoints [.readyPoll, .respond]) 0xFF).ret.byte = 0xFF ∧
      (withByte (atPoints [.readyPoll, .respond]) 0xFE).ret.byte ≠ 0xFF := by decide

theorem test_hyp_ReadyWaitBoundaryIsExact :
    let s := withCard (withMoves State.reset [.seq, .seq, .tick, .seq, .seq]) [0, 1, 2, 3, 4]
    s.cfg.wellFormed = true ∧ 1 ≤ s.cfg.maxDuration ∧ s.seqpos = [] ∧ (∀ e ∈ s.env.inbox, e = .seq ∨ e = .tick) ∧
      (∀ x ∈ s.env.answers 5, x ≠ 0xFF) ∧
      got (exec (.waitReady 1) s) (·.seqpos) = some [.op (.arm 1), .op (.exchange 0xFF), .readyPoll] ∧
      got (seqRun 1 { s with seqpos := [.op (.arm 1), .op (.exchange 0xFF), .readyPoll] }) (·.tcount) = some 1 := by decide

theorem test_hyp_SelectAndWaitSucceeds :
    (withCard State.reset [0xFF, 0x00, 0xFF]).env.answers 3 = 0xFF :: [0x00] ++ [0xFF] := by decide

theorem test_hyp_SelectionTimeout :
    (atPoints [.selected, .commandSelected 63 7, .respond]).ret.ok = false ∧
      (atPoints [.commandSelected 63 7, .respond]).seqpos = [.commandSelected 63 7, .respond] := by decide

theorem test_hyp_FrameRowsSendTheirWords :
    encode State.reset.cfg (.stopTransmission 0) = some (.frame, [0x4C, 0, 0, 0, 0, 0x01]) ∧
      encode State.reset.cfg .appPrefix = some (.frame, [0x77, 0, 0, 0, 0, 0x01]) := by decide

theorem test_hyp_SendCommandStandard :
    let bad := List.replicate 9 (0xFF : Byte)
    let s := withCard State.reset ([1, 2, 0x00, 0xFF] ++ [3, 4, 5, 6, 7, 8] ++ bad ++ [0x80])
    (17 : Index) ≠ s.cfg.idxStop ∧ s.cfg.tSelect ≤ s.cfg.maxDuration ∧ 0 < s.cfg.tSelect ∧
      s.env.answers (10 + 1 + 9) = 1 :: 2 :: [0x00] ++ 0xFF :: [3, 4, 5, 6, 7, 8] ++ bad ++ [0x80] := by decide

theorem test_hyp_SendCommandStop :
    let s := withCard State.reset [1, 2, 3, 4, 5, 6, 0x00, 0xFF, 0x01]
    s.env.answers (8 + 1) = [1, 2, 3, 4, 5, 6] ++ 0x00 :: [0xFF] ++ [0x01] := by decide

theorem test_hyp_ApplicationPrefixFirst :
    (atPoints [.prefixed 41 0, .latchR1, .respond]).seqpos = [.prefixed 41 0, .latchR1, .respond] := by decide

theorem test_hyp_ResponsePollStops :
    (atPoints [.pollStart, .respond]).seqpos = [.pollStart, .respond] ∧
      (withByte (atPoints [.responsePoll, .respond]) 0x7F).ret.byte = 0#1 ++ (0x7F : BitVec 7) := by decide

theorem test_hyp_FramerRecordsTheResponse : (atPoints [.latchR1, .respond]).seqpos = [.latchR1, .respond] := by decide

theorem test_hyp_ReceiveBlockStoresPayload :
    (withCard State.reset [0xFF, 0xFF, 0xFE, 7]).env.answers 3 = List.replicate 2 0xFF ++ [0xFE] ∧
      (withCard State.reset [0xFE, 7]).env.answers 1 = List.replicate 0 0xFF ++ [0xFE] := by decide

theorem test_hyp_TokenPollEnds :
    (withByte (atPoints [.tokenPoll, .readReceived]) 0xFE).seqpos = [.tokenPoll, .readReceived] ∧
      (withByte (atPoints [.tokenPoll, .readReceived]) 0x0B).ret.byte ≠ 0xFF ∧
      (withByte (atPoints [.tokenPoll, .readReceived]) 0x0B).ret.byte ≠ 0xFE ∧
      (withByte (atPoints [.tokenPoll, .readReceived]) 0xFF).ret.byte = 0xFF := by decide

theorem test_hyp_SendBlockSendsBuf :
    500 ≤ State.reset.cfg.maxDuration ∧ (withCard State.reset [0x00, 0xFF]).env.answers 2 = [0x00] ++ [0xFF] ∧
      (0xFE : Byte) ≠ State.reset.cfg.stopToken ∧ (0x33 : Byte) ≠ State.reset.cfg.stopToken ∧
      (0x33 : Byte) ≠ State.reset.cfg.dataTokenWrite := by decide

theorem test_hyp_WriteTokenAndDataResponse :
    (withByte (atPoints [.dataResponse, .writeSent]) 0xE5).ret.byte = (7 : BitVec 3) ++ 0b00101#5 := by decide

theorem test_hyp_SendBlockTimeoutAndStopToken :
    (atPoints [.blockReady 0xFE, .writeSent]).ret.ok = false ∧
      (withOk (atPoints [.blockReady 0xFD, .writeSent]) true).seqpos =
        .blockReady State.reset.cfg.stopToken :: [.writeSent] := by decide

theorem test_hyp_PowerUpWaitCountsTicks :
    let s (k : Nat) := withMoves (atPoints [.firstAttempt]) (.seq :: List.replicate k .tick ++ [.seq])
    (s 1).cfg.wellFormed = true ∧ (s 1).seqpos = [.firstAttempt] ∧
      got (exec .powerUpWait (s 1)) (·.seqpos) = some [.op (.arm 1), .op .expired, .powerTest, .firstAttempt] ∧
      (s 0).cfg.tPowerup = 1 ∧ (atPoints [.powerTest]).seqpos = [.powerTest] := by decide

theorem test_hyp_GoIdleAttempts :
    (withByte (atPoints [.goIdleTest]) 0x01).ret.byte = 0x01 ∧
      (withByte (atPoints [.goIdleTest]) 0x00).ret.byte ≠ 0x01 ∧
      ({ atPoints [.goIdleTest] with attempt := 254 } : State).attempt ≠ 255 ∧
      ({ atPoints [.goIdleTest] with attempt := 255 } : State).attempt = 255 := by decide

theorem test_hyp_InitializeStarts :
    ({ State.reset with cardState := .error 0x01FF } : State).busy = false ∧
      (atPoints [.firstAttempt]).seqpos = [.firstAttempt] := by decide

theorem test_hyp_FinishMakesReady :
    let s : State := { State.reset with cardState := .idle, lastR1 := 0, win := { State.reset.win with fin := 3 } }
    s.busy = false ∧ s.cardState = .idle ∧ s.win.fin.getLsbD 0 = true ∧ s.lastR1 = 0x00 := by decide

theorem test_hyp_FinishFails :
    let s : State := { State.reset with cardState := .idle, win := { State.reset.win with fin := 1 } }
    s.busy = false ∧ s.cardState = .idle ∧ s.lastR1 ≠ 0x00 ∧
      ({ s with win := { s.win with fin := 0xFF02 } } : State).win.fin.getLsbD 0 = false := by decide

theorem test_hyp_ReadyResponseGoesOn :
    (atPoints [.finishVerdict]).seqpos = .finishVerdict :: [] ∧ (atPoints [.readCommand]).seqpos = .readCommand :: [] ∧
      (atPoints [.writeCommand]).seqpos = .writeCommand :: [] := by decide

theorem test_hyp_ResponsesOutsideTheirTests : State.reset.seqpos.head? = none := by decide

theorem test_hyp_ReservedOpsAreBadOp : State.reset.busy = false := by decide

theorem test_hyp_WrongStateIsRefused :
    State.reset.busy = false ∧ State.reset.cardState ≠ .ready ∧ State.reset.cardState ≠ .idle := by decide

theorem test_hyp_SectorArgument :
    State.reset.cfg.byteShift = 9 ∧ State.reset.byteAddr = false ∧ (0x007FFFFF : Long).toNat < 2 ^ 23 ∧
      2 ^ 23 ≤ (0x00800000 : Long).toNat := by decide

theorem test_hyp_ReadSectorDelivers :
    let s := withCard { State.reset with cardState := .ready, byteAddr := true }
      [1, 2, 0, 0xFF, 3, 4, 5, 6, 7, 8, 0xFF, 0x00, 0xFF, 0xFE]
    s.cfg.wellFormed = true ∧ 0 < s.cfg.tSelect ∧ 0 < s.cfg.tRead ∧ s.cfg.idxReadSingle ≠ s.cfg.idxStop ∧
      s.busy = false ∧ s.cardState = .ready ∧ (s.win.sectorHi ++ s.win.sectorLo).toNat < sectorLimit s.cfg ∧
      s.env.answers (11 + 1 + 1 + 1) =
        1 :: 2 :: [0x00] ++ 0xFF :: [3, 4, 5, 6, 7, 8] ++ [0xFF] ++ 0x00 :: List.replicate 1 0xFF ++ [0xFE] := by decide

theorem test_hyp_WriteSectorSendsOrRejects :
    let s := withCard { State.reset with cardState := .ready }
      [1, 2, 0, 0xFF, 3, 4, 5, 6, 7, 8, 0xFF, 0x00, 0x0F, 0xFF]
    s.cfg.wellFormed = true ∧ 0 < s.cfg.tSelect ∧ s.cfg.idxWriteSingle ≠ s.cfg.idxStop ∧
      s.cfg.dataTokenWrite ≠ s.cfg.stopToken ∧ s.busy = false ∧ s.cardState = .ready ∧ s.byteAddr = false ∧
      s.env.answers (11 + 1 + 1 + 1) =
        1 :: 2 :: [0x00] ++ 0xFF :: [3, 4, 5, 6, 7, 8] ++ [0xFF] ++ 0x00 :: [0x0F] ++ [0xFF] := by decide

theorem test_hyp_RefusedResponseIsClassified :
    let s := withByte (atPoints [.readCommand]) 0x05
    s.seqpos = [.readCommand] ∧ s.ret.byte = 0x05 ∧ (0x05 : Byte) ≠ 0x00 ∧
      (atPoints [.writeCommand]).seqpos = [.writeCommand] := by decide

theorem test_hyp_TransferResultIsReported :
    (atPoints [.writeSent]).seqpos = [if true then .writeSent else .readReceived] ∧
      (atPoints [.readReceived]).seqpos = [if false then .writeSent else .readReceived] := by decide

theorem test_hyp_NegotiatorOperations :
    let s : State := { State.reset with cardState := .idle }
    s.busy = false ∧ s.cardState = .idle ∧ (atPoints [.respond]).seqpos = [.respond] := by decide

theorem test_hyp_WhereTheMachineStops :
    ({ Config.default with tRead := 65536 } : Config).maxDuration < 65536 ∧
      ({ Config.default with tcountWidth := 8 } : Config).maxDuration < 500 ∧
      ({ Config.default with tPowerup := 0 } : Config).tPowerup = 0 ∧ State.reset.cfg.base + 0x400 ≤ 0x400 ∧
      512 ≤ ({ atPoints [.storeByte] with bidx := 512 } : State).bidx.toNat ∧ decodeTableWord 48 0 = none ∧
      4 < ({ Config.default with base := 5 } : Config).base := by decide

theorem test_hyp_OverrunSetsOvrOnly :
    let s := withMoves (atPoints [.respond]) [.hostWrite (0 + 0x3FF) 1]
    s.cfg.wellFormed = true ∧ s.busy = true ∧ 0x200 ≤ 0x3FF ∧ s.env.inbox = [.hostWrite (s.cfg.base + 0x3FF) 1] := by decide

theorem test_hyp_RegisterWindow_operand :
    let s := withMoves State.reset [.hostWrite (0 + 0x010) 0xFFFF, .hostRead (0 + 0x010)]
    s.cfg.wellFormed = true ∧ s.busy = false ∧
      s.env.inbox = [.hostWrite (s.cfg.base + 0x010) 0xFFFF, .hostRead (s.cfg.base + 0x010)] ∧
      got (Host.Core.run Sys2Proof.core 2 s) (·.hostData) = some [0xFF03] := by decide
theorem test_hyp_RegisterWindow_resp :
    got (Host.Core.run Sys2Proof.core 2 (withMoves State.reset [.hostWrite 0x012 0x1234, .hostRead 0x012]))
      (fun t => (t.win.resp, t.hostData)) = some (0x00FF, [0x00FF]) := by decide
theorem test_hyp_RegisterWindow_errcode :
    got (Host.Core.run Sys2Proof.core 2
      (withMoves { State.reset with cardState := .error 0x0801 } [.hostWrite 0x016 0x1234, .hostRead 0x016]))
      (fun t => (t.cardState, t.hostData)) = some (.error 0x0801, [0x0801]) := by decide
theorem test_hyp_RegisterWindow_odd :
    got (Host.Core.run Sys2Proof.core 2 (withMoves State.reset [.hostWrite 0x017 0x1234, .hostRead 0x017]))
      (fun t => (t.win, t.hostData)) = some (State.reset.win, [0]) := by decide
theorem test_hyp_RegisterWindow_reserved :
    got (Host.Core.run Sys2Proof.core 2 (withMoves State.reset [.hostWrite 0x018 0x1234, .hostRead 0x018]))
      (fun t => (t.win, t.hostData)) = some (State.reset.win, [0]) := by decide
theorem test_hyp_RegisterWindow_status :
    got (step (withMoves { State.reset with ovr := true } [.hostWrite 0x002 0xFFFD])) (·.ovr) = some true := by decide

theorem test_hyp_HostOwnsBufWhileIdle :
    let s := withMoves State.reset [.hostWrite (0 + 0x200 + 511) 9, .hostRead (0 + 0x200 + 511)]
    let b := withMoves (atPoints [.respond]) [.hostRead (0 + 0x200 + 0)]
    s.cfg.wellFormed = true ∧ s.busy = false ∧
      s.env.inbox = [.hostWrite (s.cfg.base + 0x200 + 511) 9, .hostRead (s.cfg.base + 0x200 + 511)] ∧
      b.busy = true ∧ b.env.inbox = [.hostRead (b.cfg.base + 0x200 + 0)] := by decide

theorem test_hyp_SectorOperationsStart :
    let s : State := { State.reset with
      cardState := .ready, byteAddr := true, win := { State.reset.win with sectorHi := 0x007F, sectorLo := 0xFFFF } }
    s.busy = false ∧ s.cardState = .ready ∧ (s.win.sectorHi ++ s.win.sectorLo).toNat < sectorLimit s.cfg := by decide

end Sys2Proof.Tests
end

/-! # SEQ's control flow ends at the next primitive

Between two primitives SEQ passes points of the pseudocode. `flowLength` bounds how many it can pass from a SEQPOS: it counts
each pending point with the points that can open inside it, up to the first point that is certain to reach a primitive. Every
point passed makes it smaller, and it never exceeds `settleBound`, so `State.settle` ends settled (10_state.md R30). -/

namespace Sys2Proof.Machine

/-! ## How many points the control flow can pass -/

/-- How many points can be passed inside a call, after the call itself and before a primitive. -/
def pointsInsideCall : Instr → Nat
  | .release => 1
  | .selectAndWait _ => 1
  | .sendBlock _ => 1
  | .sectorArg _ => 1
  | .sendCommand _ _ false => 1
  | .sendCommand _ _ true => 2
  | .framer _ _ _ => 3
  | _ => 0

/-- A call that reaches a primitive before it returns. The calls of 45_host_operations.md R244 and R253 and the completion have
no primitive. -/
def callLeadsOn : Instr → Bool
  | .sectorArg _ => false
  | .classify _ => false
  | .complete _ => false
  | _ => true

/-- How many points can be passed inside a point, after the point itself and before a primitive. -/
def Point.pointsInside : Point → Nat
  | .op i => pointsInsideCall i
  | .setCS _ | .word _ _ | .readyPoll | .readyExpired | .giveOk _ | .pollStart | .responsePoll | .latchR1 => 0
  | .tokenExpired | .payloadIn | .blockReceived | .payloadOut | .dataResponse | .tokenSent => 0
  | .dummyStart | .dummyNext | .powerTest => 0
  | .selected | .prefixed _ _ | .commandSelected _ _ | .tokenPoll | .storeByte | .blockReady _ => 1
  | .payloadStart | .payloadNext | .firstAttempt | .readDone _ _ | .writeDone _ _ | .raiseCode | .respond => 1
  | .goIdleTest | .readCommand | .readReceived | .writeCommand | .writeSent | .finishVerdict => 2
  | .readArg | .writeArg => 4

/-- A point from which SEQ reaches a primitive, whatever was returned and whatever is pending after it. -/
def Point.leadsOn : Point → Bool
  | .op i => callLeadsOn i
  | .setCS _ | .pollStart | .storeByte | .payloadIn | .payloadStart | .payloadOut | .payloadNext => true
  | .dummyStart | .firstAttempt | .readArg | .writeArg => true
  | .word _ _ | .readyPoll | .readyExpired | .selected | .giveOk _ | .prefixed _ _ | .commandSelected _ _ => false
  | .responsePoll | .latchR1 | .tokenPoll | .tokenExpired | .blockReceived | .blockReady _ | .dataResponse => false
  | .tokenSent | .dummyNext | .powerTest | .goIdleTest | .readCommand | .readReceived | .readDone _ _ => false
  | .writeCommand | .writeSent | .writeDone _ _ | .raiseCode | .respond | .finishVerdict => false

/-- How many points can be passed from a SEQPOS before it is settled. -/
def flowLength : List Point → Nat
  | [] => 0
  | p :: k => if p.isPrimitive then 0 else 1 + p.pointsInside + if p.leadsOn then 0 else flowLength k

@[simp] theorem flowLength_nil : flowLength [] = 0 := rfl

@[simp] theorem flowLength_cons (p : Point) (k : List Point) :
    flowLength (p :: k) =
      if p.isPrimitive then 0 else 1 + p.pointsInside + if p.leadsOn then 0 else flowLength k := rfl

/-- What is pending after a point that leads on does not count. -/
theorem flowLength_append_of_leadsOn {qs : List Point} (k : List Point) (h : qs.any Point.leadsOn = true) :
    flowLength (qs ++ k) = flowLength qs := by
  induction qs with
  | nil => cases h
  | cons q qs ih =>
    cases hq : q.leadsOn with
    | true => simp [hq]
    | false => simp [hq, ih (by simpa [hq] using h)]

theorem flowLength_append_le (qs k : List Point) : flowLength (qs ++ k) ≤ flowLength qs + flowLength k := by
  induction qs with
  | nil => simp
  | cons q qs ih =>
    simp only [List.cons_append, flowLength_cons]
    split
    · omega
    · split <;> omega

theorem pointsInsideCall_le (i : Instr) : pointsInsideCall i ≤ 4 := by
  unfold pointsInsideCall
  split <;> decide

theorem Point.pointsInside_le (p : Point) : p.pointsInside ≤ 4 := by
  cases p with
  | op i => exact pointsInsideCall_le i
  | _ => simp [Point.pointsInside]

theorem flowLength_le_settleBound (s : State) : flowLength s.seqpos ≤ settleBound s := by
  unfold settleBound
  induction s.seqpos with
  | nil => simp
  | cons p k ih =>
    have := p.pointsInside_le
    simp only [flowLength_cons, List.length_cons]
    split
    · omega
    · split <;> omega

/-- Where SEQPOS is not settled a point stands that is no primitive. -/
theorem settled_eq_false {s : State} : s.settled = false ↔ ∃ p k, s.seqpos = p :: k ∧ p.isPrimitive = false := by
  unfold State.settled
  cases s.seqpos <;> simp

theorem settled_of_flowLength_zero {s : State} (h : flowLength s.seqpos = 0) : s.settled = true := by
  cases hs : s.settled with
  | true => rfl
  | false =>
    obtain ⟨p, k, hp, hprim⟩ := settled_eq_false.mp hs
    rw [hp, flowLength_cons, hprim, if_neg Bool.false_ne_true] at h
    omega

/-! ## What SEQ can pass -/

/-- A point of the pseudocode other than the store to BUF, which alone needs BIDX in range. -/
def Point.plain (c : Config) (p : Point) : Bool := p.native c && decide (p ≠ .storeByte)

/-- The points `qs` that open at `p` are no more than counted for it, and they lead on where `p` does. -/
def Point.opens (p : Point) (qs : List Point) : Bool :=
  decide (flowLength qs ≤ p.pointsInside) && (!p.leadsOn || qs.any Point.leadsOn)

/-- SEQ has passed `p` in `s`, whose SEQPOS is what follows `p`, and is nearer to a primitive: no event, and only points of the
pseudocode pending. -/
structure Passed (s : State) (p : Point) (t : State) : Prop where
  cfg : t.cfg = s.cfg
  wire : t.wire = s.wire
  pointsNative : t.PointsNative
  storeInRange : t.StoreInRange
  nearer : flowLength t.seqpos < flowLength (p :: s.seqpos)

theorem storeInRange_of_not_mem {s : State} (h : .storeByte ∉ s.seqpos) : s.StoreInRange := by
  unfold State.StoreInRange
  split <;> simp_all

theorem all_plain_iff {c : Config} {k : List Point} :
    k.all (Point.plain c) = true ↔ (∀ q ∈ k, q.native c = true) ∧ .storeByte ∉ k := by
  simp only [List.all_eq_true, Point.plain, Bool.and_eq_true, decide_eq_true_eq, forall_and, and_congr_right_iff]
  exact fun _ => ⟨fun h hm => h _ hm rfl, fun h q hq he => h (he ▸ hq)⟩

theorem Passed.of_plain {s t : State} {p : Point} (hall : t.seqpos.all (Point.plain s.cfg) = true) (hc : t.cfg = s.cfg)
    (hw : t.wire = s.wire) (hnear : flowLength t.seqpos < flowLength (p :: s.seqpos)) : Passed s p t := by
  obtain ⟨hnative, hstore⟩ := all_plain_iff.mp hall
  exact ⟨hc, hw, fun q hq => hc ▸ hnative q hq, storeInRange_of_not_mem hstore, hnear⟩

/-- The points that open at `p` stand before what followed it. -/
theorem Passed.of_push {s t : State} {p : Point} (qs : List Point) (hk : s.seqpos.all (Point.plain s.cfg) = true)
    (hqs : qs.all (Point.plain s.cfg) = true := by rfl) (ho : p.opens qs = true := by rfl)
    (hp : p.isPrimitive = false := by rfl) (ht : t.seqpos = qs ++ s.seqpos := by rfl) (hc : t.cfg = s.cfg := by rfl)
    (hw : t.wire = s.wire := by rfl) : Passed s p t := by
  simp only [Point.opens, Bool.and_eq_true, Bool.or_eq_true, decide_eq_true_eq, Bool.not_eq_true'] at ho
  obtain ⟨hlen, hlead⟩ := ho
  refine .of_plain (by simp [ht, hqs, hk]) hc hw ?_
  rw [ht, flowLength_cons, hp, if_neg Bool.false_ne_true]
  cases hl : p.leadsOn with
  | true =>
    rw [flowLength_append_of_leadsOn _ (hlead.resolve_left (by rw [hl]; nofun)), if_pos rfl]
    omega
  | false =>
    have := flowLength_append_le qs s.seqpos
    rw [if_neg Bool.false_ne_true]
    omega

/-- The rest of the pseudocode is dropped, as `complete` and `raise` do (60_exceptions.md R282, R283). -/
theorem Passed.of_drop {s t : State} {p : Point} (qs : List Point)
    (hqs : qs.all (Point.plain s.cfg) = true := by rfl)
    (hlen : decide (flowLength qs ≤ p.pointsInside) = true := by rfl)
    (hp : p.isPrimitive = false := by rfl) (ht : t.seqpos = qs := by rfl) (hc : t.cfg = s.cfg := by rfl)
    (hw : t.wire = s.wire := by rfl) : Passed s p t := by
  have hlen := of_decide_eq_true hlen
  refine .of_plain (ht ▸ hqs) hc hw ?_
  rw [ht, flowLength_cons, hp, if_neg Bool.false_ne_true]
  omega

theorem Passed.ite {s t u : State} {p : Point} {b : Prop} [Decidable b] (ht : b → Passed s p t) (hu : ¬b → Passed s p u) :
    Passed s p (if b then t else u) := by
  split
  · next h => exact ht h
  · next h => exact hu h

/-! ## The points that a command opens -/

/-- The six exchanges of a frame (30_encoding.md R80). -/
def frameExchanges (c : Config) (idx : Index) (arg : Long) : List Point :=
  (frameBytes c idx arg).map fun b => .op (.exchange b)

/-- Every frame is a call that SEQ makes and that reaches a primitive at once. -/
theorem frameOf_flow (c : Config) (idx : Index) (arg : Long) :
    calledBySeq c (frameOf c idx arg) = true ∧ (Point.op (frameOf c idx arg)).isPrimitive = false ∧
      pointsInsideCall (frameOf c idx arg) = 0 ∧ callLeadsOn (frameOf c idx arg) = true := by
  unfold frameOf
  repeat' split
  all_goals exact ⟨rfl, rfl, rfl, rfl⟩

theorem framePoints_plain (c : Config) (idx : Index) (arg : Long) :
    (framePoints c idx arg).all (Point.plain c) = true := by
  simp [framePoints, Point.plain, Point.native, frameOf_flow c idx arg]

theorem framePoints_flow (c : Config) (idx : Index) (arg : Long) :
    flowLength (framePoints c idx arg) = 1 ∧ (framePoints c idx arg).any Point.leadsOn = true := by
  obtain ⟨-, hprim, hinside, hlead⟩ := frameOf_flow c idx arg
  simp [framePoints, Point.pointsInside, Point.leadsOn, hprim, hinside, hlead]

theorem commandPoints_plain {c : Config} (hc : durationFits c c.tSelect = true) (idx : Index) (arg : Long) :
    (commandPoints c idx arg).all (Point.plain c) = true := by
  unfold commandPoints
  split
  · exact framePoints_plain c idx arg
  · simp [Point.plain, Point.native, calledBySeq, hc]

theorem commandPoints_flow (c : Config) (idx : Index) (arg : Long) :
    flowLength (commandPoints c idx arg) = 1 ∧ (commandPoints c idx arg).any Point.leadsOn = true := by
  unfold commandPoints
  split
  · exact framePoints_flow c idx arg
  · exact ⟨rfl, rfl⟩

/-! ## Every point that is no primitive is passed -/

theorem config_wellFormed_iff (c : Config) : c.wellFormed = true ↔
    durationFits c c.tSelect = true ∧ durationFits c c.tRead = true ∧ durationFits c Param.tWriteReady = true ∧
      durationFits c c.tPowerup = true ∧ 1 ≤ c.tPowerup := by
  simp [Config.wellFormed, and_assoc]

/-- A call of SEQ that is no primitive (40_transport_timer.md to 45_host_operations.md). -/
theorem exec_passes {s : State} {i : Instr} (hcfg : s.cfg.wellFormed = true) (hi : calledBySeq s.cfg i = true)
    (hp : (Point.op i).isPrimitive = false) (hk : s.seqpos.all (Point.plain s.cfg) = true) :
    ∃ t, exec i s = .next t ∧ Passed s (.op i) t := by
  obtain ⟨hsel, -, hwrite, hpow, -⟩ := (config_wellFormed_iff s.cfg).mp hcfg
  cases i with
  | hostReserved0 | hostInitialize | hostReadSector | hostWriteSector | hostSendCommand | hostExchange | hostFinish
  | hostReserved7 | statusRead | startTokenRead | r1Valid | r1Idle | r1Ready | dataRespAccept | cardReadyIdleByte
  | tick => cases hi
  | exchange | arm | expired | setSpeed => cases hp
  | cmdFrame idx arg =>
    exact ⟨_, exec_cmdFrame idx arg s, .of_push (frameExchanges s.cfg idx arg) hk⟩
  | goIdle arg =>
    exact ⟨_, exec_goIdle arg s, .of_push (frameExchanges s.cfg s.cfg.idxGoIdle arg) hk⟩
  | ifCond arg =>
    exact ⟨_, exec_ifCond arg s, .of_push (frameExchanges s.cfg s.cfg.idxIfCond arg) hk⟩
  | stopTransmission arg =>
    exact ⟨_, exec_stopTransmission arg s, .of_push (frameExchanges s.cfg s.cfg.idxStop arg ++ [fillerExchange]) hk⟩
  | readSingleBlock arg =>
    exact ⟨_, exec_readSingleBlock arg s, .of_push (frameExchanges s.cfg s.cfg.idxReadSingle arg) hk⟩
  | writeSingleBlock arg =>
    exact ⟨_, exec_writeSingleBlock arg s, .of_push (frameExchanges s.cfg s.cfg.idxWriteSingle arg) hk⟩
  | appPrefix =>
    exact ⟨_, exec_appPrefix s, .of_push (frameExchanges s.cfg s.cfg.idxAppPrefix Param.appPrefixArg) hk⟩
  | dataTokenWrite =>
    exact ⟨_, exec_dataTokenWrite s, .of_push [.op (.exchange s.cfg.dataTokenWrite), .payloadStart] hk⟩
  | stopToken => exact ⟨_, exec_stopToken s, .of_push [.op (.exchange s.cfg.stopToken), .tokenSent] hk⟩
  | select => exact ⟨_, exec_select s, .of_push [.setCS true, fillerExchange] hk⟩
  | deselect => exact ⟨_, exec_deselect s, .of_push [.setCS false, fillerExchange] hk⟩
  | waitReady t =>
    exact ⟨_, exec_waitReady t s, .of_push [.op (.arm t), fillerExchange, .readyPoll] hk
      (by simpa [Point.plain, Point.native, calledBySeq, fillerExchange] using hi)⟩
  | selectAndWait t =>
    exact ⟨_, exec_selectAndWait t s, .of_push [.op .select, .op (.waitReady t), .selected] hk
      (by simpa [Point.plain, Point.native, calledBySeq] using hi)⟩
  | release => exact ⟨_, exec_release s, .of_push [.op .deselect] hk⟩
  | sendCommand idx arg app =>
    cases app with
    | true =>
      exact ⟨_, exec_sendCommand idx arg true s,
        .of_push [.op (.sendCommand s.cfg.idxAppPrefix Param.appPrefixArg false), .prefixed idx arg] hk⟩
    | false =>
      obtain ⟨hlen, hlead⟩ := commandPoints_flow s.cfg idx arg
      exact ⟨_, exec_sendCommand idx arg false s, .of_push (commandPoints s.cfg idx arg) hk
        (commandPoints_plain hsel idx arg) (by simp [Point.opens, hlen, hlead, Point.pointsInside, pointsInsideCall])⟩
  | framer idx arg app =>
    exact ⟨_, exec_framer idx arg app s, .of_push [.op (.sendCommand idx arg app), .latchR1] hk rfl (by cases app <;> rfl)⟩
  | receiveBlock t =>
    exact ⟨_, exec_receiveBlock t s, .of_push [.op (.arm t), fillerExchange, .tokenPoll] hk
      (by simpa [Point.plain, Point.native, calledBySeq, fillerExchange] using hi)⟩
  | sendBlock token =>
    exact ⟨_, exec_sendBlock token s, .of_push [.op (.waitReady Param.tWriteReady), .blockReady token] hk
      (by simp [Point.plain, Point.native, calledBySeq, hwrite])⟩
  | sectorArg sector =>
    exact ⟨_, rfl, .ite (fun _ => .ite (fun _ => .of_drop [.op (.complete (negCode rangeError))]) fun _ => .of_push [] hk)
      fun _ => .of_push [] hk⟩
  | classify r => exact ⟨_, exec_classify r s, .of_push [] hk⟩
  | complete res => exact ⟨_, exec_complete res s, .of_drop []⟩
  | initDummyBlock => exact ⟨_, exec_initDummyBlock s, .of_push [.setCS false, .dummyStart] hk⟩
  | powerUpWait =>
    exact ⟨_, exec_powerUpWait s, .of_push [.op (.arm s.cfg.tPowerup), .op .expired, .powerTest] hk
      (by simp [Point.plain, Point.native, calledBySeq, hpow])⟩

/-- A test, on either branch (30_encoding.md R97). -/
theorem pointStep_test_passes {s : State} {p : Point} {k : List Point} (hcfg : s.cfg.wellFormed = true)
    (h : s.seqpos = p :: k) (hk : k.all (Point.plain s.cfg) = true) (htest : (testAt p s).isSome = true) :
    ∃ t, pointStep s = .next t ∧ Passed { s with seqpos := k } p t := by
  obtain ⟨-, hread, -, -, -⟩ := (config_wellFormed_iff s.cfg).mp hcfg
  cases p with
  | readyPoll =>
    by_cases hb : s.ret.byte = 0xFF#8
    · exact ⟨_, pointStep_readyPoll_ready h hb, .of_push [] hk⟩
    · exact ⟨_, pointStep_readyPoll_other h hb, .of_push [.op .expired, .readyExpired] hk⟩
  | responsePoll =>
    cases hb : s.ret.byte.getLsbD 7 with
    | false => exact ⟨_, pointStep_responsePoll_valid h hb, .of_push [] hk⟩
    | true =>
      refine ⟨_, pointStep_responsePoll_other h hb, ?_⟩
      split
      · exact .of_push [] hk
      · exact .of_push [fillerExchange, .responsePoll] hk
  | tokenPoll =>
    by_cases hstart : s.ret.byte = 0xFE#8
    · exact ⟨_, pointStep_tokenPoll_start h hstart, .of_push [.payloadIn] hk⟩
    · by_cases hfill : s.ret.byte = 0xFF#8
      · exact ⟨_, pointStep_tokenPoll_filler h hfill, .of_push [.op .expired, .tokenExpired] hk⟩
      · exact ⟨_, pointStep_tokenPoll_other h hfill hstart, .of_push [] hk⟩
  | dataResponse => exact ⟨_, pointStep_dataResponse h, .of_push [] hk⟩
  | goIdleTest =>
    by_cases hb : s.ret.byte = 0x01#8
    · exact ⟨_, pointStep_goIdleTest_idle h hb, .of_push [.op (.complete 0)] hk⟩
    · exact ⟨_, pointStep_goIdleTest_other h hb, .ite
        (fun _ => .of_push [.op .release, .op (.complete (negCode (initNoResponse s.ret.byte)))] hk)
        fun _ => .of_push (attemptPoints s.cfg) hk⟩
  | readCommand =>
    by_cases hb : s.ret.byte = 0x00#8
    · exact ⟨_, pointStep_readCommand_ready h hb, .of_push [.op (.receiveBlock s.cfg.tRead), .readReceived] hk
        (by simp [Point.plain, Point.native, calledBySeq, hread])⟩
    · exact ⟨_, pointStep_readCommand_other h hb, .of_push [.op .release, .op (.classify s.ret.byte), .raiseCode] hk⟩
  | writeCommand =>
    by_cases hb : s.ret.byte = 0x00#8
    · exact ⟨_, pointStep_writeCommand_ready h hb, .of_push [.op (.sendBlock s.cfg.dataTokenWrite), .writeSent] hk⟩
    · exact ⟨_, pointStep_writeCommand_other h hb, .of_push [.op .release, .op (.classify s.ret.byte), .raiseCode] hk⟩
  | finishVerdict =>
    by_cases hb : s.lastR1 = 0x00#8
    · exact ⟨_, pointStep_finishVerdict_ready h hb, .of_push [.op (.setSpeed .fast), .op .release, .op (.complete 0)] hk⟩
    · exact ⟨_, pointStep_finishVerdict_other h hb,
        .of_push [.op .release, .op (.complete (negCode (readyRefused s.lastR1)))] hk⟩
  | _ => cases htest

/-- The head of the receive loop puts the store behind its exchange, with BIDX in range (43_block_transfer.md R182). -/
theorem pointPayloadIn_passes {s : State} (hk : s.seqpos.all (Point.plain s.cfg) = true) :
    ∃ t, pointPayloadIn s = .next t ∧ Passed s .payloadIn t := by
  obtain ⟨hnative, hstore⟩ := all_plain_iff.mp hk
  by_cases hb : s.bidx.toNat < Param.blockLen
  · refine ⟨s.push [fillerExchange, .storeByte], by simp [pointPayloadIn, hb], rfl, rfl, ?_, ⟨hb, hstore⟩,
      Nat.zero_lt_one⟩
    simpa [State.PointsNative, State.push, fillerExchange, Point.native, calledBySeq] using hnative
  · exact ⟨s.push [fillerExchange, fillerExchange, .blockReceived], by simp [pointPayloadIn, hb],
      .of_push [fillerExchange, fillerExchange, .blockReceived] hk⟩

/-- A point that is neither a call nor a test. -/
theorem runPoint_passes {s : State} {p : Point} (hcall : ∀ i, p ≠ .op i) (htest : testAt p s = none)
    (hcfg : s.cfg.wellFormed = true) (hn : p.native s.cfg = true) (hp : p.isPrimitive = false)
    (hk : s.seqpos.all (Point.plain s.cfg) = true) (hstore : p = .storeByte → s.bidx.toNat < Param.blockLen) :
    ∃ t, runPoint p s = .next t ∧ Passed s p t := by
  obtain ⟨hsel, -, -, -, -⟩ := (config_wellFormed_iff s.cfg).mp hcfg
  cases p with
  | op i => exact absurd rfl (hcall i)
  | setCS => cases hp
  | word => cases hn
  | readyPoll | responsePoll | tokenPoll | dataResponse | goIdleTest | readCommand | writeCommand
  | finishVerdict => cases htest
  | readyExpired => exact ⟨_, rfl, .ite (fun _ => .of_push [] hk) fun _ => .of_push [fillerExchange, .readyPoll] hk⟩
  | selected => exact ⟨_, rfl, .ite (fun _ => .of_push [] hk) fun _ => .of_push [.op .deselect, .giveOk false] hk⟩
  | giveOk ok => exact ⟨_, rfl, .of_push [] hk⟩
  | prefixed idx arg =>
    obtain ⟨hlen, hlead⟩ := commandPoints_flow s.cfg idx arg
    exact ⟨_, rfl, .ite (fun _ => .of_push [] hk) fun _ => .of_push (commandPoints s.cfg idx arg) hk
      (commandPoints_plain hsel idx arg) (by simp [Point.opens, hlen, hlead, Point.pointsInside])⟩
  | commandSelected idx arg =>
    obtain ⟨hlen, hlead⟩ := framePoints_flow s.cfg idx arg
    exact ⟨_, rfl, .ite (fun _ => .of_push (framePoints s.cfg idx arg) hk (framePoints_plain s.cfg idx arg)
      (by simp [Point.opens, hlen, hlead, Point.pointsInside])) fun _ => .of_push [] hk⟩
  | pollStart => exact ⟨_, rfl, .of_push [fillerExchange, .responsePoll] hk⟩
  | latchR1 => exact ⟨_, rfl, .of_push [] hk⟩
  | tokenExpired => exact ⟨_, rfl, .ite (fun _ => .of_push [] hk) fun _ => .of_push [fillerExchange, .tokenPoll] hk⟩
  | payloadIn => exact pointPayloadIn_passes hk
  | storeByte => exact ⟨_, if_pos (hstore rfl), .of_push [.payloadIn] hk⟩
  | blockReceived => exact ⟨_, rfl, .of_push [] hk⟩
  | blockReady token =>
    refine ⟨_, rfl, .ite (fun _ => .of_push (tokenPoints s.cfg token) hk ?_ ?_) fun _ => .of_push [] hk⟩ <;>
      (unfold tokenPoints; repeat' split) <;> rfl
  | payloadStart => exact ⟨_, rfl, .of_push [.payloadOut] hk⟩
  | payloadOut =>
    refine ⟨_, rfl, .of_push _ hk ?_ ?_⟩ <;> (split <;> rfl)
  | payloadNext => exact ⟨_, rfl, .of_push [.payloadOut] hk⟩
  | tokenSent => exact ⟨_, rfl, .of_push [] hk⟩
  | dummyStart => exact ⟨_, rfl, .of_push [fillerExchange, .dummyNext] hk⟩
  | dummyNext => exact ⟨_, rfl, .ite (fun _ => .of_push [] hk) fun _ => .of_push [fillerExchange, .dummyNext] hk⟩
  | powerTest => exact ⟨_, rfl, .ite (fun _ => .of_push [] hk) fun _ => .of_push [.op .expired, .powerTest] hk⟩
  | firstAttempt => exact ⟨_, rfl, .of_push (attemptPoints s.cfg) hk⟩
  | readArg => exact ⟨_, rfl, .of_push [.op (.framer s.cfg.idxReadSingle s.ret.arg false), .readCommand] hk⟩
  | readReceived => exact ⟨_, rfl, .of_push [.op .release, .readDone s.ret.ok s.ret.byte] hk⟩
  | readDone ok tok =>
    exact ⟨_, rfl, .ite (fun _ => .of_push [.op (.complete 0)] hk)
      fun _ => .of_drop [.op (.complete (negCode (dataTimeout tok)))]⟩
  | writeArg => exact ⟨_, rfl, .of_push [.op (.framer s.cfg.idxWriteSingle s.ret.arg false), .writeCommand] hk⟩
  | writeSent => exact ⟨_, rfl, .of_push [.op .release, .writeDone s.ret.ok s.ret.byte] hk⟩
  | writeDone ok resp =>
    exact ⟨_, rfl, .ite (fun _ => .of_push [.op (.complete 0)] hk) fun _ =>
      .ite (fun _ => .of_drop [.op (.complete (negCode readyWaitTimeout))])
        fun _ => .of_drop [.op (.complete (negCode (writeReject resp)))]⟩
  | raiseCode => exact ⟨_, rfl, .of_drop [.op (.complete (negCode s.ret.code))]⟩
  | respond => exact ⟨_, rfl, .of_push [.op (.complete 0)] hk⟩

/-- What stands behind a point that is no primitive, when a store to BUF is pending only where it may be (43_block_transfer.md
R182). -/
theorem State.StoreInRange.behind {s : State} {p : Point} {k : List Point} (hs : s.StoreInRange) (h : s.seqpos = p :: k)
    (hp : p.isPrimitive = false) : .storeByte ∉ k ∧ (p = .storeByte → s.bidx.toNat < Param.blockLen) := by
  unfold State.StoreInRange at hs
  split at hs
  · next hk =>
    obtain ⟨rfl, rfl⟩ := List.cons.inj (h.symm.trans hk)
    exact ⟨hs.2, fun _ => hs.1⟩
  · next hk =>
    obtain ⟨rfl, -⟩ := List.cons.inj (h.symm.trans hk)
    cases hp
  · simp_all

/-- Every point of the pseudocode that is no primitive is passed. -/
theorem pointStep_passes {s : State} {p : Point} {k : List Point} (hcfg : s.cfg.wellFormed = true) (hn : s.PointsNative)
    (hs : s.StoreInRange) (h : s.seqpos = p :: k) (hp : p.isPrimitive = false) :
    ∃ t, pointStep s = .next t ∧ Passed { s with seqpos := k } p t := by
  obtain ⟨hfree, hstore⟩ := hs.behind h hp
  have hall : ∀ q ∈ p :: k, q.native s.cfg = true := h ▸ hn
  have hk : k.all (Point.plain s.cfg) = true := all_plain_iff.mpr ⟨fun q hq => hall q (.tail _ hq), hfree⟩
  have hpn := hall p (.head _)
  by_cases hcall : ∃ i, p = .op i
  · obtain ⟨i, rfl⟩ := hcall
    rw [pointStep_op h]
    exact exec_passes hcfg hpn hp hk
  · cases htest : testAt p s with
    | some b => exact pointStep_test_passes hcfg h hk (by simp [htest])
    | none =>
      rw [pointStep_point h htest]
      refine runPoint_passes (fun i hi => hcall ⟨i, hi⟩) ?_ hcfg hpn hp hk hstore
      rw [← htest]
      cases p <;> rfl

/-! ## Settling, and one step of SEQ -/

/-- With as many points as the control flow can pass it ends settled, and no event happens. -/
theorem settleFor_settles {n : Nat} {s : State} (hcfg : s.cfg.wellFormed = true) (hn : s.PointsNative) (hs : s.StoreInRange)
    (hlen : flowLength s.seqpos ≤ n) :
    ∃ t, settleFor n s = .next t ∧ t.settled = true ∧ t.wire = s.wire := by
  induction n generalizing s with
  | zero => exact ⟨s, rfl, settled_of_flowLength_zero (Nat.le_zero.mp hlen), rfl⟩
  | succ n ih =>
    cases hset : s.settled with
    | true => exact ⟨s, settleFor_settled hset, hset, rfl⟩
    | false =>
      obtain ⟨p, k, hpk, hp⟩ := settled_eq_false.mp hset
      obtain ⟨u, hu, hcfg', hwire, hn', hs', hnear⟩ := pointStep_passes hcfg hn hs hpk hp
      have hlen' : flowLength u.seqpos ≤ n := by rw [hpk] at hlen; exact Nat.le_of_lt_succ (Nat.lt_of_lt_of_le hnear hlen)
      obtain ⟨t, ht, htset, htwire⟩ := ih (hcfg' ▸ hcfg) hn' hs' hlen'
      exact ⟨t, (settleFor_succ hset hu).trans ht, htset, htwire.trans hwire⟩

/-- The control flow always reaches the next primitive or IDLE (10_state.md R30). -/
theorem settle_settles {s : State} (hcfg : s.cfg.wellFormed = true) (hn : s.PointsNative) (hs : s.StoreInRange) :
    ∃ t, s.settle = .next t ∧ t.settled = true ∧ t.wire = s.wire :=
  settleFor_settles hcfg hn hs (flowLength_le_settleBound s)

/-- A primitive makes one event of the five of 00_scope.md R6, and SEQ stands at what follows it. -/
theorem pointStep_primitive {s : State} {p : Point} {k : List Point} (h : s.seqpos = p :: k)
    (hn : p.native s.cfg = true) (hp : p.isPrimitive = true) :
    ∃ e t, pointStep s = .next t ∧ t.wire = e :: s.wire ∧ isTick e = false ∧
      t.seqpos = k ∧ t.cfg = s.cfg ∧ t.bidx = s.bidx := by
  cases p with
  | setCS b => cases b <;> exact ⟨_, _, pointStep_point h rfl, rfl, rfl, rfl, rfl, rfl⟩
  | op i =>
    cases i with
    | exchange o => exact ⟨_, _, pointStep_op h, rfl, rfl, rfl, rfl, rfl⟩
    | arm n => exact ⟨_, _, (pointStep_op h).trans (exec_arm _ hn), rfl, rfl, rfl, rfl, rfl⟩
    | expired => exact ⟨_, _, pointStep_op h, rfl, rfl, rfl, rfl, rfl⟩
    | setSpeed v => exact ⟨_, _, pointStep_op h, rfl, rfl, rfl, rfl, rfl⟩
    | _ => cases hp
  | _ => cases hp

/-- A store that stood behind its exchange stands first after it, still in range (43_block_transfer.md R182). -/
theorem State.StoreInRange.after_primitive {s t : State} {p : Point} {k : List Point} (hs : s.StoreInRange)
    (h : s.seqpos = p :: k) (hp : p.isPrimitive = true) (ht : t.seqpos = k) (hb : t.bidx = s.bidx) : t.StoreInRange := by
  unfold State.StoreInRange at hs
  split at hs
  · next hk =>
    obtain ⟨rfl, -⟩ := List.cons.inj (h.symm.trans hk)
    cases hp
  · next hk =>
    obtain ⟨-, rfl⟩ := List.cons.inj (h.symm.trans hk)
    simpa [State.StoreInRange, ht, hb] using hs
  · exact storeInRange_of_not_mem (by simp_all)

/-- A step of SEQ that is not IDLE makes exactly one event, no tick, and settles (00_scope.md R6; 10_state.md R30). -/
theorem State.Inv.seqStep_one_event {s : State} (hinv : s.Inv) (hcfg : s.cfg.wellFormed = true) (hpos : s.seqpos ≠ []) :
    ∃ t, seqStep s = .next t ∧ t.settled = true ∧ ∃ e, t.wire = e :: s.wire ∧ isTick e = false := by
  obtain ⟨hsound, hset⟩ := hinv
  obtain ⟨p, k, h⟩ := List.exists_cons_of_ne_nil hpos
  have hall : ∀ q ∈ p :: k, q.native s.cfg = true := h ▸ hsound.pointsNative
  have hp : p.isPrimitive = true := by simpa [State.settled, h] using hset
  obtain ⟨e, u, hu, hwire, htick, hseq, hc, hb⟩ := pointStep_primitive h (hall p (.head _)) hp
  have hn : u.PointsNative := fun q hq => hc ▸ hall q (.tail _ (hseq ▸ hq))
  obtain ⟨t, ht, htset, htwire⟩ :=
    settle_settles (hc ▸ hcfg) hn (hsound.storeInRange.after_primitive h hp hseq hb)
  exact ⟨t, by rw [seqStep, hu]; exact ht, htset, e, htwire.trans hwire, htick⟩

/-- A step of the machine is the first act of its move and the points that SEQ passes after it, if the move is one of SEQ's. -/
theorem step_eq_firstAct_pointRun {s t : State} (h : step s = .next t) :
    ∃ u n, firstAct s.env.nextEvent s.takeEvent = .next u ∧ pointRun n u = .next t ∧
      (movesSeq s.env.nextEvent s.takeEvent = false → t = u) := by
  cases hcfg : s.cfg.wellFormed with
  | false => rw [step_ill_formed hcfg] at h; cases h
  | true =>
    rw [step_eq hcfg] at h
    cases hm : movesSeq s.env.nextEvent s.takeEvent with
    | false => exact ⟨t, 0, by rwa [runEvent_still hm] at h, rfl, fun _ => rfl⟩
    | true =>
      rw [runEvent_moves hm] at h
      obtain ⟨u, hu, hsettle⟩ := andThen_eq_next.mp h
      obtain ⟨n, hn⟩ := settleFor_pointRun hsettle
      exact ⟨u, n, hu, hn, nofun⟩

/-- Settles O8: `flowLength` bounds the points that a step of SEQ passes after its one primitive. -/
theorem seqStepIsOneEvent : Obligations.SeqStepIsOneEvent := by
  refine ⟨fun s hinv hcfg hpos => ?_, fun s t h => step_eq_firstAct_pointRun h⟩
  obtain ⟨t, ht, hset, hevent⟩ := hinv.seqStep_one_event hcfg hpos
  exact ⟨t, ht, hset, seqStep_pointRun ht, hevent⟩

end Sys2Proof.Machine

/-! # BUF (20_memory.md R60, R72)

The state has two writers of BUF: `receive_block`'s store, which is a point of the pseudocode and no operation, and a host write
at an offset of BUF while BUSY = 0. Every operation, every other point and every other move leaves `State.buf` as it is. -/

namespace Sys2Proof.Machine

/-! ## No operation writes BUF -/

/-- Both branches of a rule leave the same BUF. -/
theorem State.buf_ite {b : Prop} [Decidable b] {t u : State} {m : Memory} (ht : t.buf = m) (hu : u.buf = m) :
    (if b then t else u).buf = m := by
  split
  · exact ht
  · exact hu

theorem State.hostOp_buf (s : State) {body : State → State} (h : ∀ u, (body u).buf = u.buf) :
    (s.hostOp body).buf = s.buf :=
  State.buf_ite rfl (h s.issue)

theorem State.ifReady_buf (s : State) (ps : List Point) : (s.ifReady ps).buf = s.buf :=
  State.buf_ite rfl rfl

theorem State.ifIdle_buf (s : State) {body : State → State} (h : ∀ u, (body u).buf = u.buf) :
    (s.ifIdle body).buf = s.buf :=
  State.buf_ite (h s) rfl

/-- The payload loops store and load BUF at points of their own (43_block_transfer.md R182, R188), so that an operation writes
it on no branch. -/
theorem exec_buf {i : Instr} {s t : State} (h : exec i s = .next t) : t.buf = s.buf := by
  cases i with
  | hostReserved0 | hostReserved7 | hostInitialize => cases h; exact s.hostOp_buf fun _ => rfl
  | hostReadSector | hostWriteSector => cases h; exact s.hostOp_buf fun u => u.ifReady_buf _
  | hostSendCommand | hostExchange => cases h; exact s.hostOp_buf fun u => u.ifIdle_buf fun _ => rfl
  | hostFinish => cases h; exact s.hostOp_buf fun u => u.ifIdle_buf fun _ => State.buf_ite rfl rfl
  | arm n =>
    cases hn : durationFits s.cfg n with
    | true => rw [exec_arm s hn] at h; cases h; rfl
    | false => rw [exec_arm_too_long s hn] at h; cases h
  | r1Idle =>
    simp only [exec, execR1Idle] at h
    split at h <;> cases h <;> rfl
  | r1Ready =>
    simp only [exec, execR1Ready] at h
    split at h <;> cases h <;> rfl
  | sectorArg sector => cases h; exact State.buf_ite (State.buf_ite rfl rfl) rfl
  | _ => cases h; rfl

/-! ## Of the points `receive_block`'s store writes BUF -/

theorem runPoint_buf {p : Point} {s t : State} (hp : p ≠ .storeByte) (h : runPoint p s = .next t) : t.buf = s.buf := by
  cases p with
  | storeByte => exact absurd rfl hp
  | op i => exact exec_buf h
  | word nbits w =>
    simp only [runPoint] at h
    split at h
    · exact exec_buf h
    · cases h
  | readyExpired | selected | prefixed | commandSelected | responsePoll | tokenPoll | tokenExpired | blockReady | dummyNext
  | powerTest | goIdleTest | readDone => cases h; exact State.buf_ite rfl rfl
  | writeDone ok resp => cases h; exact State.buf_ite rfl (State.buf_ite rfl rfl)
  | _ => cases h; rfl

theorem pointStoreByte_buf {s t : State} (h : pointStoreByte s = .next t) :
    t.buf = (s.bufWrite s.bidx.toNat s.ret.byte).buf := by
  unfold pointStoreByte at h
  split at h <;> cases h
  rfl

/-- The store is no operation: at SEQPOS it is the point that SEQ runs. -/
theorem eventPoint?_storeByte {s : State} {k : List Point} (h : s.seqpos = .storeByte :: k) :
    s.eventPoint? .seq = some .storeByte := by
  have hi : s.seqInstr? = none := by simp [State.seqInstr?, h, testAt]
  simp [State.eventPoint?, hi, h]

/-- One point of the pseudocode leaves BUF, or is the store of the byte received at BUF[BIDX] (43_block_transfer.md R182). -/
theorem pointStep_buf {s t : State} (h : pointStep s = .next t) :
    t.buf = s.buf ∨ s.eventPoint? .seq = some .storeByte ∧ t.buf = (s.bufWrite s.bidx.toNat s.ret.byte).buf := by
  cases hpos : s.seqpos with
  | nil => rw [pointStep_idle hpos] at h; cases h; exact .inl rfl
  | cons p k =>
    by_cases hp : p = .storeByte
    · subst hp
      rw [pointStep_point hpos rfl] at h
      exact .inr ⟨eventPoint?_storeByte hpos, (pointStoreByte_buf h :)⟩
    · refine .inl ?_
      cases htest : testAt p s with
      | none => rw [pointStep_point hpos htest] at h; exact (runPoint_buf hp h :)
      | some test =>
        obtain ⟨port, b⟩ := test
        cases hd : decode s.cfg port [b] with
        | ok i => rw [pointStep_test_ok hpos htest hd] at h; exact exec_buf h
        | error e => rw [pointStep_test_error hpos htest hd] at h; exact (runPoint_buf hp h :)

/-! ## The host's accesses -/

/-- The addresses of the window (10_state.md R33). -/
theorem windowOffset?_eq_some {c : Config} {addr off : Nat} :
    windowOffset? c addr = some off ↔ addr = c.base + off ∧ off < windowSize := by
  simp only [windowOffset?, Option.ite_none_right_eq_some, Option.some.injEq]
  omega

theorem windowOffset?_buf (c : Config) {a : Nat} (ha : a < 512) :
    windowOffset? c (c.base + 0x200 + a) = some (bufOffset + a) :=
  windowOffset?_eq_some.mpr (by simp only [bufOffset, windowSize]; omega)

theorem State.writeOperand_buf (s : State) (w : Window) : (s.writeOperand w).buf = s.buf :=
  State.buf_ite rfl rfl

theorem State.regWrite_buf (s : State) (off : Nat) (v : Half) : (s.regWrite off v).buf = s.buf := by
  unfold State.regWrite
  split
  case h_1 => -- STATUS
    exact State.buf_ite rfl rfl
  case h_9 => -- an offset with no register to write
    rfl
  all_goals exact s.writeOperand_buf _

theorem State.hostBufRead_buf (s : State) (a : Nat) : (s.hostBufRead a).buf = s.buf :=
  State.buf_ite rfl rfl

theorem hostReadAt_buf {addr : Nat} {s t : State} (h : hostReadAt addr s = .next t) : t.buf = s.buf := by
  unfold hostReadAt at h
  split at h <;> cases h
  exact State.buf_ite rfl (s.hostBufRead_buf _)

/-- Where a host write finds a byte of BUF: at its offset, while BUSY = 0 (20_memory.md R72). -/
theorem hostWriteAt_buf {addr : Nat} {v : Half} {s t : State} (h : hostWriteAt addr v s = .next t) :
    t.buf = s.buf ∨ s.busy = false ∧
      ∃ a, addr = s.cfg.base + 0x200 + a ∧ t.buf = (s.bufWrite a (v.extractLsb' 0 8)).buf := by
  unfold hostWriteAt at h
  split at h
  · cases h
  next off hoff =>
    cases h
    obtain ⟨haddr, -⟩ := windowOffset?_eq_some.mp hoff
    split
    · exact .inl (s.regWrite_buf off v)
    next hbuf =>
      cases hbusy : s.busy with
      | true => exact .inl (by simp [State.hostBufWrite, hbusy])
      | false =>
        refine .inr ⟨rfl, off - bufOffset, ?_, by simp [State.hostBufWrite, hbusy]⟩
        simp only [bufOffset] at hbuf ⊢
        omega

theorem hostWrite_buf {addr : Nat} {v : Half} {s t : State} (h : hostWrite addr v s = .next t) :
    t.buf = s.buf ∨ s.busy = false ∧
      ∃ a, addr = s.cfg.base + 0x200 + a ∧ t.buf = (s.bufWrite a (v.extractLsb' 0 8)).buf := by
  unfold hostWrite at h
  split at h
  · exact .inl (exec_buf h)
  · exact hostWriteAt_buf h

/-! ## Who writes BUF -/

/-- After one write of a byte, the address that reads otherwise is the written one. -/
theorem State.bufRead_changed {s t : State} {a b : Nat} {v : Byte} (ht : t.buf = (s.bufWrite b v).buf)
    (ha : t.bufRead a ≠ s.bufRead a) : a = b ∧ t.bufRead a = v := by
  rw [State.bufRead_congr ht] at ha ⊢
  by_cases hab : a = b
  · subst hab
    exact ⟨rfl, s.bufRead_bufWrite_same a v⟩
  · exact absurd (s.bufRead_bufWrite_other v hab) ha

/-- Settles O16: the first act of a move leaves BUF as it is or is one write of a byte, by SEQ's store or by the host. -/
theorem bufWriters : Obligations.BufWriters := by
  intro s t e h a ha
  have hsame (ht : t.buf = s.buf) : False := ha (State.bufRead_congr ht a)
  cases e with
  | seq =>
    obtain ht | ⟨hpoint, ht⟩ := pointStep_buf h
    · exact (hsame ht).elim
    · exact .inl ⟨hpoint, State.bufRead_changed ht ha⟩
  | tick => exact (hsame (exec_buf (i := .tick) h)).elim
  | statusRead => exact (hsame (exec_buf (i := .statusRead) h)).elim
  | hostRead addr => exact (hsame (hostReadAt_buf h)).elim
  | hostWrite addr v =>
    obtain ht | ⟨hbusy, b, rfl, ht⟩ := hostWrite_buf h
    · exact (hsame ht).elim
    · obtain ⟨rfl, hv⟩ := State.bufRead_changed ht ha
      exact .inr ⟨hbusy, v, rfl, hv⟩

/-! ## The host at a byte of BUF -/

/-- An offset from 0x200 on is no register's. -/
theorem not_bufOffset_add_lt (a : Nat) : ¬ bufOffset + a < bufOffset := Nat.not_lt.mpr (Nat.le_add_right _ _)

theorem hostReadAt_byte (s : State) {a : Nat} (ha : a < 512) :
    hostReadAt (s.cfg.base + 0x200 + a) s = .next (s.hostBufRead a) := by
  simp only [hostReadAt, windowOffset?_buf s.cfg ha, if_neg (not_bufOffset_add_lt a), Nat.add_sub_cancel_left]

theorem hostWrite_byte (s : State) {a : Nat} (v : Half) (ha : a < 512) :
    hostWrite (s.cfg.base + 0x200 + a) v s = .next (s.hostBufWrite a (v.extractLsb' 0 8)) := by
  have hctrl : s.cfg.base + 0x200 + a ≠ s.cfg.base + ctrlOffset := by simp only [ctrlOffset]; omega
  simp only [hostWrite, if_neg hctrl, hostWriteAt, windowOffset?_buf s.cfg ha, if_neg (not_bufOffset_add_lt a),
    Nat.add_sub_cancel_left]

/-- A host write of BUF is no CTRL write, so that SEQ does not move with it. -/
theorem runEvent_hostWrite_byte (s : State) {a : Nat} (v : Half) (ha : a < 512) :
    runEvent (.hostWrite (s.cfg.base + 0x200 + a) v) s = .next (s.hostBufWrite a (v.extractLsb' 0 8)) := by
  have hstill : movesSeq (.hostWrite (s.cfg.base + 0x200 + a) v) s = false := by
    rw [Bool.eq_false_iff, Ne, movesSeq_hostWrite]
    simp only [ctrlOffset]
    omega
  rw [runEvent_still hstill]
  exact hostWrite_byte s v ha

theorem State.hostBufWrite_idle {s : State} (a : Nat) (b : Byte) (h : s.busy = false) :
    s.hostBufWrite a b = s.bufWrite a b := by
  simp [State.hostBufWrite, h]

theorem State.hostBufRead_idle {s : State} (a : Nat) (h : s.busy = false) :
    s.hostBufRead a = { s with hostData := [0#8 ++ s.bufRead a] } := by
  simp [State.hostBufRead, h, BitVec.setWidth_eq_append]

theorem State.hostBufRead_busy {s : State} (a : Nat) (h : s.busy = true) :
    s.hostBufRead a = { s with
      hostData := [0#8 ++ Config.freeHostByte s.env.hostDraws]
      env := { s.env with hostDraws := s.env.hostDraws + 1 } } := by
  simp [State.hostBufRead, h, BitVec.setWidth_eq_append]

/-- The state with these moves still to come. -/
def State.withInbox (s : State) (evs : List Event) : State := { s with env := { s.env with inbox := evs } }

theorem step_hostWrite_byte {s : State} {a : Nat} {v : Half} {evs : List Event} (hcfg : s.cfg.wellFormed = true)
    (ha : a < 512) (hbusy : s.busy = false) (h : s.env.inbox = .hostWrite (s.cfg.base + 0x200 + a) v :: evs) :
    step s = .next ((s.withInbox evs).bufWrite a (v.extractLsb' 0 8)) := by
  have hidle : (s.withInbox evs).busy = false := hbusy
  rw [step_inbox hcfg h, ← State.hostBufWrite_idle a _ hidle]
  exact runEvent_hostWrite_byte (s.withInbox evs) v ha

theorem step_hostRead_byte {s : State} {a : Nat} {evs : List Event} (hcfg : s.cfg.wellFormed = true) (ha : a < 512)
    (h : s.env.inbox = .hostRead (s.cfg.base + 0x200 + a) :: evs) :
    step s = .next ((s.withInbox evs).hostBufRead a) := by
  rw [step_inbox hcfg h]
  exact hostReadAt_byte (s.withInbox evs) ha

/-- A run of the machine goes on past a step. -/
theorem core_run_succ {n : Nat} {s t : State} (h : step s = .next t) :
    Host.Core.run Sys2Proof.core (n + 1) s = Host.Core.run Sys2Proof.core n t := by
  have hcore : Sys2Proof.core.step s = .next t := h
  simp only [Host.Core.run, hcore]

/-- Settles O58: while BUSY = 0 the two moves run in turn, and the read finds the byte that the write has stored; while BUSY = 1
the read takes the next free byte. -/
theorem hostOwnsBufWhileIdle : Obligations.HostOwnsBufWhileIdle := by
  intro s a v hcfg ha
  constructor
  · intro hbusy hinbox
    let u := (s.withInbox [.hostRead (s.cfg.base + 0x200 + a)]).bufWrite a (v.extractLsb' 0 8)
    have hwrite : step s = .next u := step_hostWrite_byte hcfg ha hbusy hinbox
    have hread : step u = .next { u.withInbox [] with hostData := [0#8 ++ u.bufRead a] } :=
      (step_hostRead_byte (s := u) hcfg ha rfl).trans (congrArg _ (State.hostBufRead_idle a hbusy))
    have hsame : u.bufRead a = v.extractLsb' 0 8 := State.bufRead_bufWrite_same _ a _
    refine ⟨_, (core_run_succ hwrite).trans (core_run_succ hread), by rw [hsame]; rfl, hsame, fun b hb => ?_⟩
    exact State.bufRead_bufWrite_other _ _ hb
  · intro hbusy hinbox
    exact (step_hostRead_byte hcfg ha hinbox).trans (congrArg _ (State.hostBufRead_busy a hbusy))

end Sys2Proof.Machine

/-! # Command frames and CTRL values (30_encoding.md R80 to R83, R93, R94)

The fields of a frame are the command byte, the four bytes of the argument and the CRC byte of the index. Each field is read
back from its bytes, so that `decodeFrame` is the inverse of `frameBytes`. -/

namespace Sys2Proof

/-! ## The command byte -/

theorem commandByte_eq_add (idx : Index) : commandByte idx = BitVec.ofNat 8 (0x40 + idx.toNat) := by
  revert idx; decide

@[simp] theorem commandByte_start (idx : Index) : (commandByte idx).extractLsb' 6 2 = 0b01#2 := by
  revert idx; decide

@[simp] theorem commandByte_index (idx : Index) : (commandByte idx).extractLsb' 0 6 = idx := by
  revert idx; decide

/-- A byte whose bits 7:6 are 01 is the command byte of its bits 5:0. -/
theorem commandByte_of_start {b : Byte} (h : b.extractLsb' 6 2 = 0b01#2) : commandByte (b.extractLsb' 0 6) = b := by
  revert b; decide

/-! ## The argument, most significant byte first -/

theorem argBytes_append (b1 b2 b3 b4 : Byte) : argBytes (b1 ++ b2 ++ b3 ++ b4) = [b1, b2, b3, b4] := by
  have byte1 : (b1 ++ b2 ++ b3 ++ b4).extractLsb' 24 8 = b1 := by
    rw [BitVec.extractLsb'_append_eq_of_le (by decide), BitVec.extractLsb'_append_eq_of_le (by decide)]
    exact BitVec.extractLsb'_append_eq_left
  have byte2 : (b1 ++ b2 ++ b3 ++ b4).extractLsb' 16 8 = b2 := by
    rw [BitVec.extractLsb'_append_eq_of_le (by decide), BitVec.extractLsb'_append_eq_of_le (by decide)]
    exact BitVec.extractLsb'_append_eq_right
  have byte3 : (b1 ++ b2 ++ b3 ++ b4).extractLsb' 8 8 = b3 := by
    rw [BitVec.extractLsb'_append_eq_of_le (by decide)]
    exact BitVec.extractLsb'_append_eq_right
  have byte4 : (b1 ++ b2 ++ b3 ++ b4).extractLsb' 0 8 = b4 := BitVec.extractLsb'_append_eq_right
  rw [argBytes, byte1, byte2, byte3, byte4]

theorem append_argBytes (arg : Long) :
    arg.extractLsb' 24 8 ++ arg.extractLsb' 16 8 ++ arg.extractLsb' 8 8 ++ arg.extractLsb' 0 8 = arg := by
  have high : arg.extractLsb' 24 8 ++ arg.extractLsb' 16 8 = arg.extractLsb' 16 16 :=
    BitVec.extractLsb'_append_extractLsb'_eq_extractLsb' rfl
  have upper : arg.extractLsb' 16 16 ++ arg.extractLsb' 8 8 = arg.extractLsb' 8 24 :=
    BitVec.extractLsb'_append_extractLsb'_eq_extractLsb' rfl
  have whole : arg.extractLsb' 8 24 ++ arg.extractLsb' 0 8 = arg :=
    (BitVec.extractLsb'_append_extractLsb'_eq_extractLsb' rfl).trans BitVec.extractLsb'_eq_self
  rw [high, upper, whole]

theorem argBytes_eq_div (arg : Long) :
    argBytes arg = [BitVec.ofNat 8 (arg.toNat / 2 ^ 24), BitVec.ofNat 8 (arg.toNat / 2 ^ 16),
      BitVec.ofNat 8 (arg.toNat / 2 ^ 8), BitVec.ofNat 8 arg.toNat] := by
  simp only [argBytes, BitVec.extractLsb', Nat.shiftRight_eq_div_pow, Nat.pow_zero, Nat.div_one]

/-! ## The frame -/

theorem decodeFrame_frameBytes (c : Config) (idx : Index) (arg : Long) :
    decodeFrame c (frameBytes c idx arg) = .ok (frameOf c idx arg) := by
  simp [frameBytes, argBytes, decodeFrame, append_argBytes]

/-- What decodes as a frame is the frame of its own index and argument. -/
theorem eq_frameBytes_of_decodeFrame {c : Config} {bs : List Byte} {i : Instr} (h : decodeFrame c bs = .ok i) :
    ∃ idx arg, bs = frameBytes c idx arg ∧ i = frameOf c idx arg := by
  unfold decodeFrame at h
  split at h
  case h_1 b0 b1 b2 b3 b4 b5 =>
    split at h
    case isTrue hstart =>
      dsimp only at h
      split at h
      case isTrue hcrc =>
        cases h
        refine ⟨_, _, ?_, rfl⟩
        rw [frameBytes, argBytes_append, commandByte_of_start hstart, hcrc]
        rfl
      case isFalse => cases h
    case isFalse => cases h
  case h_2 => cases h

/-- Settles O4: `decodeFrame` reads back every frame, and what it reads is rebuilt from its own fields. -/
theorem framesAreThoseTheBlockBuilds : Obligations.FramesAreThoseTheBlockBuilds := by
  intro c bs i
  constructor
  · exact eq_frameBytes_of_decodeFrame
  · rintro ⟨idx, arg, rfl, rfl⟩
    exact decodeFrame_frameBytes c idx arg

/-- Settles O3, field by field. -/
theorem frameLayout : Obligations.FrameLayout := by
  refine ⟨rfl, rfl, rfl, rfl, fun c idx arg => ?_⟩
  rw [frameBytes, argBytes_eq_div, commandByte_eq_add]
  rfl

/-! ## CTRL -/

/-- The two bytes of a CTRL value, little-endian (20_memory.md R66). -/
theorem decode_ctrl_bytes (c : Config) (v : Half) :
    decode c .ctrl [v.extractLsb' 0 8, v.extractLsb' 8 8] = .ok (decodeCtrl v) := by
  have hv : v.extractLsb' 8 8 ++ v.extractLsb' 0 8 = v :=
    (BitVec.extractLsb'_append_extractLsb'_eq_extractLsb' rfl).trans BitVec.extractLsb'_eq_self
  rw [decode, hv]

/-- Settles O5: the two bytes make up the value again, and `decodeCtrl` reads its remainder by 8. -/
theorem ctrlDecodesByLowBits : Obligations.CtrlDecodesByLowBits := by
  intro c v
  have hlow : (v.extractLsb' 0 3).toNat = v.toNat % 8 := by simp
  rewrite [decode_ctrl_bytes, decodeCtrl, hlow]
  rfl

/-- Settles O1, by running the decoder on each word. -/
theorem sampleWordsDecode : Obligations.SampleWordsDecode :=
  ⟨rfl, rfl, rfl, rfl, rfl, rfl, rfl, rfl, rfl, rfl, rfl, rfl⟩

end Sys2Proof

/-! # The rows of received bytes, and the rows of frames

A row of a received byte takes SEQPOS past its own test and past no other point (log 14). A row of a frame opens one exchange
for each byte of its words (log 15). -/

namespace Sys2Proof.Machine

/-! ## Received bytes away from their test -/

/-- A row of a received byte away from its test leaves SEQPOS where it stands (log 14). -/
theorem State.leaving_elsewhere {s : State} {p : Point} (h : s.seqpos.head? ≠ some p) : s.leaving p = s.seqpos := by
  unfold State.leaving
  split
  · next q k hq => rw [hq] at h ⊢; exact if_neg fun hqp => h (congrArg some hqp)
  · next hq => exact hq.symm

theorem exec_r1Idle_elsewhere {s : State} (h : s.seqpos.head? ≠ some .goIdleTest) :
    exec .r1Idle s = .next (s.giveByte 0x01) := by
  simp only [exec, execR1Idle]
  split
  · next k hk => exact absurd (congrArg List.head? hk) h
  · rfl

theorem exec_r1Ready_elsewhere {s : State}
    (h : s.seqpos.head? ∉ [some .finishVerdict, some .readCommand, some .writeCommand]) :
    exec .r1Ready s = .next (s.giveByte 0x00) := by
  simp only [exec, execR1Ready]
  split
  case h_4 => rfl
  all_goals next k hk => simp [hk] at h

/-- Settles O45: away from its test a row leaves SEQPOS, and R1_IDLE and R1_READY return their byte alone. -/
theorem responsesOutsideTheirTests : Obligations.ResponsesOutsideTheirTests := by
  refine fun s => ⟨fun h flags => ?_, exec_r1Idle_elsewhere, exec_r1Ready_elsewhere, fun h high => ?_, fun h => ?_,
    fun h => ?_⟩
  · rw [exec_r1Valid, State.leaving_elsewhere h]; rfl
  · rw [exec_dataRespAccept, State.leaving_elsewhere h]; rfl
  · rw [exec_cardReadyIdleByte, State.leaving_elsewhere h]; rfl
  · rw [exec_startTokenRead, State.leaving_elsewhere h]; rfl

/-! ## Frames -/

/-- The exchanges of the bytes `out`, one after the other. -/
def exchangePoints (out : List Byte) : List Point := out.map fun b => .op (.exchange b)

theorem exchanged_cons (o i : Byte) (out inp : List Byte) :
    exchanged (o :: out) (i :: inp) = exchanged out inp ++ [.exch o i] := by
  simp [exchanged]

/-- The bytes `out` are sent in order; the byte returned is the last one received. -/
theorem pointRun_exchangePoints (out : List Byte) {s : State} {k : List Point} (h : s.seqpos = exchangePoints out ++ k) :
    pointRun out.length s = .next { s with
      seqpos := k
      ret := { s.ret with byte := (s.env.answers out.length).getLastD s.ret.byte }
      env := s.env.afterAnswers out.length
      wire := exchanged out (s.env.answers out.length) ++ s.wire } := by
  induction out generalizing s with
  | nil => cases h; rfl
  | cons b out ih =>
    rw [List.length_cons, pointRun_op h (exec_exchange b _), ih rfl]
    simp only [Environment.answers, Environment.afterAnswers, exchanged_cons, List.getLastD_cons,
      List.append_assoc]
    rfl

/-- The words of a frame row are a frame, and the row opens the exchanges of them and of its fillers (30_encoding.md R80;
42_command_framer.md R153, R154). -/
theorem exec_frameRow {s : State} {i : Instr} {bs : List Byte} (h : encode s.cfg i = some (.frame, bs)) :
    (∃ idx arg, bs = frameBytes s.cfg idx arg) ∧
      exec i s = .next (s.push (exchangePoints (bs ++ fillersAfter i))) := by
  cases i with
  | cmdFrame | goIdle | ifCond | stopTransmission | readSingleBlock | writeSingleBlock | appPrefix =>
    cases h
    exact ⟨⟨_, _, rfl⟩, rfl⟩
  | _ => cases h

/-- Once a byte has come in, the last one received does not depend on what was returned before. -/
theorem Environment.answers_getLastD {n : Nat} (e : Environment) (hn : n ≠ 0) (a b : Byte) :
    (e.answers n).getLastD a = (e.answers n).getLastD b := by
  cases n with
  | zero => exact absurd rfl hn
  | succ n => simp only [Environment.answers, List.getLastD_cons]

/-- Settles O26: a frame row opens the exchanges of its words and fillers, and they are made in order. -/
theorem frameRowsSendTheirWords : Obligations.FrameRowsSendTheirWords := by
  intro s i bs h out
  obtain ⟨⟨idx, arg, rfl⟩, hopen⟩ := exec_frameRow h
  have hsent : out.length ≠ 0 := Nat.succ_ne_zero _
  refine ⟨_, hopen, ?_⟩
  rw [s.env.answers_getLastD hsent 0 s.ret.byte]
  exact pointRun_exchangePoints out rfl

end Sys2Proof.Machine

/-! # Transport, the Timeout Clock, and the model's own stops

A chip-select change and its filler exchange are one run of two points (40_transport_timer.md R111, R112). A run of TICK alone
takes its ticks off TCOUNT, down to 0 (R114), which gives the laws of the timer. -/

namespace Sys2Proof.Machine

/-! ## The bus -/

/-- Settles O17: an exchange is `State.exchangeByte`, whose fields these are. -/
theorem exchangeSendsAndReceives : Obligations.ExchangeSendsAndReceives := fun s o => exec_exchange o s

/-- A chip-select change, then one filler exchange (40_transport_timer.md R111, R112). -/
theorem pointRun_setCS_filler {s : State} {asserted : Bool} {k : List Point}
    (h : s.seqpos = .setCS asserted :: fillerExchange :: k) :
    pointRun 2 s = .next (({ s with seqpos := k }.driveCS asserted).exchangeByte 0xFF) := by
  rw [pointRun_point h rfl rfl]
  exact pointRun_op rfl (exec_exchange _ _)

/-- Settles O18: each of the three opens one chip-select change and one filler, `release` through its call of `deselect`. -/
theorem selectDeselectRelease : Obligations.SelectDeselectRelease := by
  intro s after
  refine ⟨⟨_, exec_select s, pointRun_setCS_filler rfl⟩, ⟨_, exec_deselect s, pointRun_setCS_filler rfl⟩,
    ⟨_, exec_release s, ?_⟩⟩
  rw [pointRun_op rfl (exec_deselect _)]
  exact pointRun_setCS_filler rfl

/-! ## The timer -/

theorem durationFits_iff (c : Config) (t : Nat) : durationFits c t = true ↔ t ≤ c.maxDuration := decide_eq_true_iff

theorem durationFits_eq_false_iff (c : Config) (t : Nat) : durationFits c t = false ↔ c.maxDuration < t := by
  rw [Bool.eq_false_iff, Ne, durationFits_iff, Nat.not_le]

/-- Settles O19, operation by operation. -/
theorem timerAndSpeedOperations : Obligations.TimerAndSpeedOperations := by
  refine ⟨rfl, fun s => ⟨fun n hn => ?_, fun n hn => ?_, ?_, ?_, fun v => exec_setSpeed v s⟩⟩
  · exact exec_arm s ((durationFits_iff s.cfg n).mpr hn)
  · exact exec_arm_too_long s ((durationFits_eq_false_iff s.cfg n).mpr hn)
  · have hzero : (if s.tcount = 0 then 0 else s.tcount - 1) = s.tcount - 1 := by split <;> omega
    rw [hzero]
    exact exec_tick s
  · have hexpired : (s.tcount == 0) = decide (s.tcount = 0) := rfl
    rw [← hexpired]
    exact exec_expired s

/-- The next `k` moves of the machine, all of them TICK's, take `k` off TCOUNT, which stops at 0 (40_transport_timer.md R114). -/
theorem core_run_ticks (k : Nat) {s : State} {evs : List Event} (hcfg : s.cfg.wellFormed = true)
    (h : s.env.inbox = List.replicate k .tick ++ evs) :
    Host.Core.run Sys2Proof.core k s = .next { s.withInbox evs with
      tcount := s.tcount - k
      wire := List.replicate k .tick ++ s.wire } := by
  induction k generalizing s with
  | zero =>
    obtain rfl : s.env.inbox = evs := h
    rfl
  | succ k ih =>
    let u := (s.withInbox (List.replicate k .tick ++ evs)).tickTimer
    have htick : step s = .next u := step_inbox hcfg h
    refine (core_run_succ htick).trans ((ih (s := u) hcfg rfl).trans ?_)
    simp only [u, State.tickTimer_tcount, State.tickTimer_wire, List.replicate_succ', List.append_assoc, Nat.sub_sub,
      Nat.add_comm 1 k]
    rfl

/-- Settles O20: after `k` ticks TCOUNT is `n - k`, which is 0 exactly when `n ≤ k`. -/
theorem timerLaws : Obligations.TimerLaws := by
  intro s a n k hcfg hn hinbox harm
  rw [exec_arm s ((durationFits_iff s.cfg n).mpr hn)] at harm
  cases harm
  have hrun := core_run_ticks (s := s.armTimer n) (evs := []) k hcfg (by simpa using hinbox)
  refine ⟨_, hrun, _, exec_expired _, ?_⟩
  have hexpired : decide (n - k = 0) = decide (n ≤ k) := decide_eq_decide.mpr Nat.sub_eq_zero_iff_le
  exact hexpired

/-! ## The model's own stops -/

/-- A configuration with a duration that TCOUNT does not hold, or with no tick of power-up time, is ill formed
(40_transport_timer.md R113; 00_scope.md R8). -/
theorem config_not_wellFormed {c : Config}
    (h : (∃ d ∈ [c.tSelect, c.tRead, 500, c.tPowerup], c.maxDuration < d) ∨ c.tPowerup = 0) : c.wellFormed = false := by
  rw [Bool.eq_false_iff, Ne, config_wellFormed_iff]
  simp only [durationFits_iff, Param.tWriteReady]
  rintro ⟨hselect, hread, hwrite, hpowerup, hpositive⟩
  obtain ⟨d, hd, hlong⟩ | hzero := h
  · have hfits : ∀ d ∈ [c.tSelect, c.tRead, 500, c.tPowerup], d ≤ c.maxDuration := by
      simp [hselect, hread, hwrite, hpowerup]
    exact Nat.not_le.mpr hlong (hfits d hd)
  · omega

/-- The addresses outside the window (10_state.md R33). -/
theorem windowOffset?_eq_none {c : Config} {addr : Nat} (h : addr < c.base ∨ c.base + 0x400 ≤ addr) :
    windowOffset? c addr = none :=
  if_neg (by simp only [windowSize]; omega)

theorem hostReadAt_outside {s : State} {addr : Nat} (h : addr < s.cfg.base ∨ s.cfg.base + 0x400 ≤ addr) :
    hostReadAt addr s = .fault (.outsideWindow addr) := by
  rw [hostReadAt, windowOffset?_eq_none h]

/-- CTRL is inside the window, so that a write outside it is not decoded. -/
theorem hostWrite_outside {s : State} {addr : Nat} (v : Half) (h : addr < s.cfg.base ∨ s.cfg.base + 0x400 ≤ addr) :
    hostWrite addr v s = .fault (.outsideWindow addr) := by
  have hctrl : addr ≠ s.cfg.base + ctrlOffset := by simp only [ctrlOffset]; omega
  rw [hostWrite, if_neg hctrl, hostWriteAt, windowOffset?_eq_none h]

theorem pointStep_storeByte_outside {s : State} {k : List Point} (h : s.seqpos = .storeByte :: k)
    (hbidx : 512 ≤ s.bidx.toNat) : pointStep s = .fault (.bufOutOfRange s.bidx.toNat) := by
  rw [pointStep_point h rfl]
  exact if_neg (Nat.not_lt.mpr hbidx)

theorem decodeTableWord_eq_none {nbits w : Nat} (h : decodeTableWord nbits w = none) :
    ∃ e, decodeWord nbits w = .error e := by
  unfold decodeTableWord at h
  split at h
  · cases h
  next e he => exact ⟨e, he⟩

theorem pointStep_word_undecodable {s : State} {nbits w : Nat} {k : List Point} {e : DecodeError}
    (h : s.seqpos = .word nbits w :: k) (he : decodeWord nbits w = .error e) :
    pointStep s = .refused (.undecodable e) := by
  rw [pointStep_point h rfl]
  simp only [runPoint, he]

/-- Settles O55, one stop after the other. -/
theorem whereTheMachineStops : Obligations.WhereTheMachineStops := by
  refine fun s => ⟨fun h => step_ill_formed (config_not_wellFormed h),
    fun addr h => ⟨hostReadAt_outside h, fun v => hostWrite_outside v h⟩, fun k => pointStep_storeByte_outside,
    fun nbits w k hpos hword => ?_⟩
  obtain ⟨e, he⟩ := decodeTableWord_eq_none hword
  exact ⟨e, pointStep_word_undecodable hpos he⟩

end Sys2Proof.Machine

/-! # The Card Selector (41_card_selector.md)

The ready poll makes an exchange, tests its byte, and reads the timer only after a byte other than 0xFF (R130). A pass of it
with no other agent between its points gives the traces of R130 and R131; the same points as steps of SEQ, with TICK between
them, give the boundary of R133. -/

namespace Sys2Proof.Machine

/-! ## The points of the ready poll -/

theorem pointStep_arm {s : State} {t : Nat} {k : List Point} (h : s.seqpos = .op (.arm t) :: k)
    (ht : t ≤ s.cfg.maxDuration) : pointStep s = .next ({ s with seqpos := k }.armTimer t) :=
  (pointStep_op h).trans (exec_arm _ ((durationFits_iff _ t).mpr ht))

theorem exec_cardReadyIdleByte_readyPoll {s : State} {k : List Point} (h : s.seqpos = .readyPoll :: k) :
    exec .cardReadyIdleByte s = .next { s with seqpos := k, ret := { s.ret with byte := 0xFF, ok := true } } := by
  simp [exec_cardReadyIdleByte, State.leaving, h, State.giveByte, State.giveOk]

/-- At the ready poll 0xFF alone is an operation (30_encoding.md R97). -/
theorem seqInstr?_readyPoll {s : State} {k : List Point} (h : s.seqpos = .readyPoll :: k) :
    s.ret.byte = 0xFF ↔ s.seqInstr? = some .cardReadyIdleByte := by
  by_cases hb : s.ret.byte = 0xFF#8 <;> simp [State.seqInstr?, h, testAt, decode, decodeByte, hb]

theorem Returned.with_ok_self {r : Returned} {b : Bool} (h : r.ok = b) : { r with ok := b } = r := by
  subst h; rfl

/-- After the read of `Expired()` the wait has returned false, or the poll goes on with one more exchange. -/
theorem pointStep_readyExpired {s : State} {k : List Point} (h : s.seqpos = .readyExpired :: k) :
    pointStep s = .next { s with
      seqpos := if s.ret.ok then k else fillerExchange :: .readyPoll :: k
      ret := { s.ret with ok := false } } := by
  rw [pointStep_point h rfl]
  simp only [runPoint, pointReadyExpired]
  cases hok : s.ret.ok with
  | true => rfl
  | false => simp [Returned.with_ok_self hok, State.push]

/-- The read of `Expired()` and what follows it. -/
theorem pointRun_readExpired {s : State} {k : List Point} (h : s.seqpos = .op .expired :: .readyExpired :: k) :
    pointRun 2 s = .next { s with
      seqpos := if s.tcount = 0 then k else fillerExchange :: .readyPoll :: k
      ret := { s.ret with ok := false }
      wire := .expired (s.tcount == 0) :: s.wire } := by
  rw [pointRun_op h (exec_expired _), pointRun_succ (pointStep_readyExpired rfl)]
  simp [State.readExpired]

/-- A byte other than 0xFF has the timer read. -/
theorem pointRun_readyPoll_other {s : State} {k : List Point} (h : s.seqpos = .readyPoll :: k)
    (hb : s.ret.byte ≠ 0xFF#8) :
    pointRun 3 s = .next { s with
      ret := { s.ret with ok := false }
      seqpos := if s.tcount = 0 then k else fillerExchange :: .readyPoll :: k
      wire := .expired (s.tcount == 0) :: s.wire } := by
  rw [pointRun_succ (pointStep_readyPoll_other h hb)]
  exact pointRun_readExpired rfl

/-- Settles O22: the test's two branches, and the read of the timer on the second. -/
theorem readyPollEnds : Obligations.ReadyPollEnds := by
  intro s k h
  refine ⟨exec_cardReadyIdleByte_readyPoll h, seqInstr?_readyPoll h, fun hb => ?_, pointRun_readyPoll_other h⟩
  rw [exec_cardReadyIdleByte_readyPoll h]
  exact pointStep_readyPoll_ready h hb

/-! ## The poll with no tick in it -/

theorem timedPolls_cons (b : Byte) (bs : List Byte) :
    timedPolls (b :: bs) = timedPolls bs ++ [.expired false, .exch 0xFF b] := by
  simp [timedPolls]

/-- One pass of the poll while the card is busy and the timer runs: an exchange, and a read of `Expired()` that is false. -/
theorem pointRun_busyPass {s : State} {k : List Point} (h : s.seqpos = fillerExchange :: .readyPoll :: k)
    (hbusy : s.env.cardByte ≠ 0xFF) (ht : s.tcount ≠ 0) :
    pointRun 4 s = .next { s with
      ret := { s.ret with byte := s.env.cardByte, ok := false }
      env := s.env.afterAnswer
      wire := .expired false :: .exch 0xFF s.env.cardByte :: s.wire } := by
  rw [pointRun_op h (exec_exchange _ _), pointRun_readyPoll_other rfl hbusy]
  simp [State.exchangeByte, ht, h, Param.filler]

/-- The last pass of the poll: an exchange that brings 0xFF. -/
theorem pointRun_readyPass {s : State} {k : List Point} (h : s.seqpos = fillerExchange :: .readyPoll :: k)
    (hready : s.env.cardByte = 0xFF) :
    pointRun 2 s = .next { s with
      seqpos := k
      ret := { s.ret with byte := 0xFF, ok := true }
      env := s.env.afterAnswer
      wire := .exch 0xFF 0xFF :: s.wire } := by
  rw [pointRun_op h (exec_exchange _ _), pointRun_succ (pointStep_readyPoll_ready rfl hready)]
  simp [State.exchangeByte, hready, Param.filler]

/-- The poll on a card that becomes ready: a pass for each busy byte, then the last one. -/
theorem pointRun_readyPolls (busy : List Byte) {s : State} {k : List Point}
    (h : s.seqpos = fillerExchange :: .readyPoll :: k) (ht : busy = [] ∨ s.tcount ≠ 0) (hbusy : ∀ b ∈ busy, b ≠ 0xFF)
    (hcard : s.env.answers (busy.length + 1) = busy ++ [0xFF]) :
    pointRun (2 + 4 * busy.length) s = .next { s with
      seqpos := k
      ret := { s.ret with byte := 0xFF, ok := true }
      env := s.env.afterAnswers (busy.length + 1)
      wire := .exch 0xFF 0xFF :: timedPolls busy ++ s.wire } := by
  induction busy generalizing s with
  | nil => exact pointRun_readyPass h (List.cons.inj hcard).1
  | cons b bs ih =>
    obtain ⟨hb, hrest⟩ := List.cons.inj hcard
    have htimer : s.tcount ≠ 0 := ht.resolve_left (List.cons_ne_nil b bs)
    have hpass := pointRun_busyPass h (hb ▸ hbusy b (.head bs)) htimer
    have hcount : 2 + 4 * (b :: bs).length = 4 + (2 + 4 * bs.length) := by rw [List.length_cons]; omega
    have hpasses := ih (s := { s with
        ret := { s.ret with byte := s.env.cardByte, ok := false }
        env := s.env.afterAnswer
        wire := .expired false :: .exch 0xFF s.env.cardByte :: s.wire })
      h (.inr htimer) (fun c hc => hbusy c (.tail b hc)) hrest
    rw [hcount, pointRun_add hpass, hpasses, hb, timedPolls_cons]
    simp [Environment.afterAnswers]

/-- Settles O21: the `Arm`, then the poll. -/
theorem waitReadyReturnsTrueAtFF : Obligations.WaitReadyReturnsTrueAtFF := by
  intro s t busy ht htimer hbusy hcard
  refine ⟨_, exec_waitReady t s, ?_⟩
  have hcount : 3 + 4 * busy.length = 2 + 4 * busy.length + 1 := by omega
  rw [hcount, pointRun_succ (pointStep_arm (s := s.push _) rfl ht)]
  exact pointRun_readyPolls busy rfl (htimer.imp_right Nat.ne_of_gt) hbusy hcard

/-! ## Selection -/

/-- After `wait_ready` has returned true, `select_and_wait` returns true. -/
theorem pointStep_selected_ready {s : State} {k : List Point} (h : s.seqpos = .selected :: k) (hok : s.ret.ok = true) :
    pointStep s = .next { s with seqpos := k } := by
  rw [pointStep_point h rfl]
  simp [runPoint, pointSelected, hok, State.giveOk, Returned.with_ok_self hok]

/-- After `wait_ready` has returned false, `select_and_wait` deselects. -/
theorem pointStep_selected_timeout {s : State} {k : List Point} (h : s.seqpos = .selected :: k)
    (hok : s.ret.ok = false) :
    pointStep s = .next { s with seqpos := .op .deselect :: .giveOk false :: k } := by
  rw [pointStep_point h rfl]
  simp [runPoint, pointSelected, hok, State.push]

/-- Settles O24: `select`, `wait_ready` as in O21 and the return of true. -/
theorem selectAndWaitSucceeds : Obligations.SelectAndWaitSucceeds := by
  intro s t x busy ht htimer hbusy hcard
  obtain ⟨hx, hrest⟩ := List.cons.inj hcard
  let chosen := ({ s with seqpos := .op (.waitReady t) :: .selected :: s.seqpos }.driveCS true).exchangeByte 0xFF
  let called := { chosen with seqpos := .selected :: s.seqpos }
  obtain ⟨u, hu, hwait⟩ := waitReadyReturnsTrueAtFF called t busy ht htimer hbusy hrest
  have hselect : pointRun 3 (s.push [.op .select, .op (.waitReady t), .selected]) = .next chosen :=
    (pointRun_op rfl (exec_select _)).trans (pointRun_setCS_filler rfl)
  have hcount : 8 + 4 * busy.length = 3 + ((3 + 4 * busy.length + 1) + 1) := by omega
  refine ⟨_, exec_selectAndWait t s, ?_⟩
  rw [hcount, pointRun_add hselect, pointRun_op (s := chosen) rfl hu, pointRun_add hwait,
    pointRun_succ (pointStep_selected_ready rfl rfl), ← hx]
  rfl

/-- Settles O25: the deselection is `deselect`'s two points, and the framer's branch on false makes no event. -/
theorem selectionTimeout : Obligations.SelectionTimeout := by
  refine ⟨fun s k h hok => ?_, fun s idx arg k h hok => ?_⟩
  · rw [pointRun_succ (pointStep_selected_timeout h hok), pointRun_op rfl (exec_deselect _),
      pointRun_add (m := 2) (n := 1) (pointRun_setCS_filler rfl), pointRun_point rfl rfl rfl]
    rfl
  · rw [pointStep_point h rfl]
    simp [runPoint, pointCommandSelected, hok, State.giveByte]

/-! ## The poll as steps of SEQ -/

/-- A step of SEQ whose point is followed by a settled SEQPOS is that point alone. -/
theorem seqStep_of_settled {s t : State} (h : pointStep s = .next t) (ht : t.settled = true) : seqStep s = .next t := by
  rw [seqStep, h]
  exact settle_settled ht

/-- A step of SEQ that settles after one more point. -/
theorem seqStep_of_settled_after {s t u : State} (h : pointStep s = .next t) (ht : t.settled = false)
    (hu : pointStep t = .next u) (hset : u.settled = true) : seqStep s = .next u := by
  rw [seqStep, h]
  exact (settleFor_succ ht hu).trans (settleFor_settled hset)

theorem seqStep_idle {s : State} (h : s.seqpos = []) : seqStep s = .next s :=
  seqStep_of_settled (pointStep_idle h) (by simp [State.settled, h])

/-- SEQ's step at the exchange of the poll, when the byte is not 0xFF. -/
theorem seqStep_pollExchange {s : State} {k : List Point} (h : s.seqpos = fillerExchange :: .readyPoll :: k)
    (hb : s.env.cardByte ≠ 0xFF) :
    seqStep s = .next { s.exchangeByte 0xFF with seqpos := .op .expired :: .readyExpired :: k } :=
  seqStep_of_settled_after ((pointStep_op h).trans (exec_exchange _ _)) rfl (pointStep_readyPoll_other rfl hb) rfl

/-- SEQ's step at the poll's read of `Expired()`, in a `wait_ready` called alone. -/
theorem seqStep_pollExpired {s : State} (h : s.seqpos = [.op .expired, .readyExpired]) :
    seqStep s = .next { s with
      seqpos := if s.tcount = 0 then [] else [fillerExchange, .readyPoll]
      ret := { s.ret with ok := false }
      wire := .expired (s.tcount == 0) :: s.wire } := by
  refine seqStep_of_settled_after ((pointStep_op h).trans (exec_expired _)) rfl
    ((pointStep_readyExpired rfl).trans ?_) ?_
  · simp [State.readExpired]
  · by_cases ht : s.tcount = 0 <;> simp [State.settled, ht, fillerExchange, Point.isPrimitive]

/-! ## What a wait that is never answered has recorded -/

/-- The boundary of R133 in a record since the `Arm`, the latest event first: every read of `Expired()` is true exactly when `t`
ticks came before it, and only ticks come after one that is true. -/
def ReadsExact (t : Nat) (w : List BusEvent) : Prop :=
  ∀ w2 r w1, w = w2 ++ .expired r :: w1 →
    r = decide (t ≤ (w1.filter isTick).length) ∧ (r = true → ∀ e ∈ w2, e = .tick)

theorem readsExact_nil (t : Nat) : ReadsExact t [] := fun w2 _ _ h => by simp at h

/-- One more event keeps the boundary, when it is a tick or no read has been true yet, and when it is exact if it is a read. -/
theorem ReadsExact.cons {t : Nat} {w : List BusEvent} {e : BusEvent} (h : ReadsExact t w)
    (hlate : e = .tick ∨ .expired true ∉ w)
    (hread : ∀ r, e = .expired r → r = decide (t ≤ (w.filter isTick).length)) : ReadsExact t (e :: w) := by
  intro w2 r w1 hw
  obtain ⟨rfl, hw⟩ | ⟨w2, rfl, rfl⟩ := List.cons_eq_append_iff.mp hw
  · obtain ⟨rfl, rfl⟩ := List.cons.inj hw
    exact ⟨hread r rfl, by simp⟩
  · obtain ⟨hr, hticks⟩ := h w2 r w1 rfl
    refine ⟨hr, fun hrt => ?_⟩
    subst hrt
    have htick : e = .tick := hlate.resolve_right (by simp)
    exact List.forall_mem_cons.mpr ⟨htick, hticks rfl⟩

/-- Where a `wait_ready(t)` called alone stands when its record since the `Arm` is `w`: in the poll, with TCOUNT counting the
ticks, or ended with false after a read that was true. -/
def PollPlace (t : Nat) (w : List BusEvent) (v : State) : Prop :=
  ((v.seqpos = [fillerExchange, .readyPoll] ∨ v.seqpos = [.op .expired, .readyExpired]) ∧
    v.tcount = t - (w.filter isTick).length ∧ .expired true ∉ w) ∨
  (v.seqpos = [] ∧ v.ret.ok = false ∧ .expired true ∈ w)

/-- A `wait_ready(t)` called alone, with the record `w` since its `Arm`, at which the wire was `armed`. -/
structure WaitRecord (t : Nat) (armed w : List BusEvent) (v : State) : Prop where
  wire : v.wire = w ++ armed
  reads : ReadsExact t w
  place : PollPlace t w v

theorem WaitRecord.withInbox {t : Nat} {armed w : List BusEvent} {v : State} (h : WaitRecord t armed w v)
    (evs : List Event) : WaitRecord t armed w (v.withInbox evs) :=
  ⟨h.wire, h.reads, h.place⟩

/-- TICK takes one off TCOUNT, as the record counts one tick more. -/
theorem WaitRecord.after_tick {t : Nat} {armed w : List BusEvent} {v : State} (h : WaitRecord t armed w v) :
    WaitRecord t armed (.tick :: w) v.tickTimer := by
  obtain ⟨hwire, hreads, hplace⟩ := h
  refine ⟨congrArg _ hwire, hreads.cons (.inl rfl) nofun, ?_⟩
  obtain ⟨hpos, hcount, hnone⟩ | ⟨hpos, hok, htrue⟩ := hplace
  · refine .inl ⟨hpos, ?_, by simpa using hnone⟩
    rw [State.tickTimer_tcount, hcount, Nat.sub_sub]
    rfl
  · exact .inr ⟨hpos, hok, .tail _ htrue⟩

/-- SEQ makes an exchange, reads the timer, or has nothing left to do. -/
theorem WaitRecord.after_seqStep {t : Nat} {armed w : List BusEvent} {v : State} (h : WaitRecord t armed w v)
    (hb : v.env.cardByte ≠ 0xFF) :
    ∃ u w', seqStep v = .next u ∧ WaitRecord t armed w' u ∧ u.cfg = v.cfg ∧
      (u.env = v.env ∨ u.env = v.env.afterAnswer) := by
  obtain ⟨hwire, hreads, ⟨hpos | hpos, hcount, hnone⟩ | ⟨hpos, hok, htrue⟩⟩ := h
  · refine ⟨_, _, seqStep_pollExchange hpos hb, ⟨congrArg _ hwire, hreads.cons (.inr hnone) nofun, ?_⟩, rfl, .inr rfl⟩
    exact .inl ⟨.inr rfl, by simpa [isTick] using hcount, by simpa using hnone⟩
  · have hexact : (v.tcount == 0) = decide (t ≤ (w.filter isTick).length) := by
      rw [hcount]
      exact decide_eq_decide.mpr Nat.sub_eq_zero_iff_le
    refine ⟨_, _, seqStep_pollExpired hpos, ⟨congrArg _ hwire, hreads.cons (.inr hnone) ?_, ?_⟩, rfl, .inl rfl⟩
    · rintro r ⟨⟩
      exact hexact
    · by_cases hzero : v.tcount = 0
      · exact .inr ⟨if_pos hzero, rfl, by simp [hzero]⟩
      · exact .inl ⟨.inl (if_neg hzero), by simpa [isTick] using hcount, by simpa [hzero] using hnone⟩
  · exact ⟨v, w, seqStep_idle hpos, ⟨hwire, hreads, .inr ⟨hpos, hok, htrue⟩⟩, rfl, .inl rfl⟩

/-! ## A card that stays busy -/

/-- None of the card's next `n` answers is 0xFF. -/
def Environment.StaysBusy (n : Nat) (e : Environment) : Prop := ∀ x ∈ e.answers n, x ≠ 0xFF

theorem Environment.staysBusy_succ {n : Nat} {e : Environment} :
    e.StaysBusy (n + 1) ↔ e.cardByte ≠ 0xFF ∧ e.afterAnswer.StaysBusy n :=
  List.forall_mem_cons

theorem Environment.StaysBusy.of_succ {n : Nat} {e : Environment} (h : e.StaysBusy (n + 1)) : e.StaysBusy n := by
  intro x hx
  refine h x ?_
  rw [Environment.answers_add]
  exact List.mem_append_left _ hx

/-- The card's answers do not depend on the moves to come. -/
theorem Environment.afterAnswer_with_inbox (e : Environment) (evs : List Event) :
    { e with inbox := evs }.afterAnswer = { e.afterAnswer with inbox := evs } := by
  obtain ⟨_, _, card, _, _⟩ := e
  cases card <;> rfl

theorem Environment.StaysBusy.with_inbox {n : Nat} {e : Environment} (h : e.StaysBusy n) (evs : List Event) :
    { e with inbox := evs }.StaysBusy n := by
  induction n generalizing e with
  | zero => exact h
  | succ n ih =>
    obtain ⟨hb, hrest⟩ := Environment.staysBusy_succ.mp h
    refine Environment.staysBusy_succ.mpr ⟨hb, ?_⟩
    rw [Environment.afterAnswer_with_inbox]
    exact ih hrest

/-! ## The boundary under any interleaving of SEQ and TICK -/

/-- The next move is one of SEQ or TICK, and the card stays busy. -/
theorem step_unanswered {t : Nat} {armed w : List BusEvent} {v : State} {e : Event} {es : List Event}
    (hcfg : v.cfg.wellFormed = true) (hinbox : v.env.inbox = e :: es) (he : e = .seq ∨ e = .tick)
    (hbusy : v.env.StaysBusy (es.length + 1)) (h : WaitRecord t armed w v) :
    ∃ u w', step v = .next u ∧ WaitRecord t armed w' u ∧ u.cfg = v.cfg ∧ u.env.inbox = es ∧
      u.env.StaysBusy es.length := by
  have hstill : (v.withInbox es).env.StaysBusy (es.length + 1) := hbusy.with_inbox es
  obtain rfl | rfl := he
  · obtain ⟨hb, hafter⟩ := Environment.staysBusy_succ.mp hstill
    obtain ⟨u, w', hu, hw, hc, henv⟩ := (h.withInbox es).after_seqStep hb
    refine ⟨u, w', (step_inbox hcfg hinbox).trans hu, hw, hc, ?_⟩
    obtain henv | henv := henv
    · rw [henv]
      exact ⟨rfl, hstill.of_succ⟩
    · rw [henv]
      exact ⟨congrArg Environment.inbox (v.env.afterAnswer_with_inbox es), hafter⟩
  · exact ⟨_, _, step_inbox hcfg hinbox, (h.withInbox es).after_tick, rfl, rfl, hstill.of_succ⟩

/-- The record keeps its boundary over all the moves to come. -/
theorem core_run_unanswered {t : Nat} {armed w : List BusEvent} {v : State} (h : WaitRecord t armed w v)
    (es : List Event) (hcfg : v.cfg.wellFormed = true) (hinbox : v.env.inbox = es)
    (hes : ∀ e ∈ es, e = .seq ∨ e = .tick) (hbusy : v.env.StaysBusy es.length) :
    ∃ u, Host.Core.run Sys2Proof.core es.length v = .next u ∧ ∃ w', WaitRecord t armed w' u := by
  induction es generalizing v w with
  | nil => exact ⟨v, rfl, w, h⟩
  | cons e es ih =>
    obtain ⟨he, hes⟩ := List.forall_mem_cons.mp hes
    obtain ⟨u, w', hu, hw, hc, hinbox, hbusy⟩ := step_unanswered hcfg hinbox he hbusy h
    rw [List.length_cons, core_run_succ hu]
    exact ih hw (hc ▸ hcfg) hinbox hes hbusy

/-- The `Arm` of a `wait_ready` called alone is one step of SEQ. -/
theorem seqRun_arm {s : State} {t : Nat} (h : s.seqpos = []) (ht : t ≤ s.cfg.maxDuration) :
    seqRun 1 (s.push [.op (.arm t), fillerExchange, .readyPoll]) =
      .next ((s.startAt [fillerExchange, .readyPoll]).armTimer t) :=
  seqRun_succ (seqStep_of_settled (pointStep_arm (by simp [h]) ht) rfl)

/-- Settles O23: right after the `Arm` the record is empty, and each move keeps its boundary. -/
theorem readyWaitBoundaryIsExact : Obligations.ReadyWaitBoundaryIsExact := by
  intro s a b t es hcfg ht hpos hinbox hes hcard ha hb
  cases (exec_waitReady t s).symm.trans ha
  cases (seqRun_arm hpos ht).symm.trans hb
  have hstart : WaitRecord t (.arm t :: s.wire) [] ((s.startAt [fillerExchange, .readyPoll]).armTimer t) :=
    ⟨rfl, readsExact_nil t, .inl ⟨.inl rfl, rfl, List.not_mem_nil⟩⟩
  obtain ⟨v, hv, w, hwire, hreads, hplace⟩ := core_run_unanswered hstart es hcfg hinbox hes hcard
  refine ⟨v, hv, w, hwire, hreads, fun hend => ?_⟩
  obtain ⟨hopen | hopen, -⟩ | ⟨-, hended⟩ := hplace
  · cases hopen.symm.trans hend
  · cases hopen.symm.trans hend
  · exact hended

end Sys2Proof.Machine

/-! # The Command Framer (42_command_framer.md)

A frame and the response poll after it are one run of points (R153 to R155), which `send_command` reaches at once for the stop
command and after a deselection and a selection for every other (R152). -/

namespace Sys2Proof.Machine

/-! ## The calls and returns of the framer -/

/-- After APP_PREFIX a response above 1 is returned, and any other goes on with the real command (R151). -/
theorem pointStep_prefixed {s : State} {idx : Index} {arg : Long} {k : List Point} (h : s.seqpos = .prefixed idx arg :: k) :
    pointStep s = .next { s with
      seqpos := if 1 < s.ret.byte.toNat then k else commandPoints s.cfg idx arg ++ k } := by
  have habove : 1#8 < s.ret.byte ↔ 1 < s.ret.byte.toNat := BitVec.lt_def
  rw [pointStep_point h rfl]
  simp only [runPoint, pointPrefixed, habove]
  split <;> rfl

/-- Settles O29: APP_PREFIX is sent by a call of `send_command`, and the test after it is `pointStep_prefixed`. -/
theorem applicationPrefixFirst : Obligations.ApplicationPrefixFirst :=
  ⟨fun s idx arg => exec_sendCommand idx arg true s, fun _ _ _ _ => pointStep_prefixed⟩

/-- Settles O31: the call of `send_command`, and the write of LASTR1 after it. -/
theorem framerRecordsTheResponse : Obligations.FramerRecordsTheResponse :=
  ⟨fun s idx arg app => exec_framer idx arg app s, fun _ _ h => pointStep_point h rfl⟩

/-- After a selection that returned true the frame is sent (R152, R153). -/
theorem pointStep_commandSelected_ready {s : State} {idx : Index} {arg : Long} {k : List Point}
    (h : s.seqpos = .commandSelected idx arg :: k) (hok : s.ret.ok = true) :
    pointStep s = .next { s with seqpos := framePoints s.cfg idx arg ++ k } := by
  rw [pointStep_point h rfl]
  simp [runPoint, pointCommandSelected, hok, State.push]

/-! ## The response poll -/

theorem pointStep_pollStart {s : State} {k : List Point} (h : s.seqpos = .pollStart :: k) :
    pointStep s = .next { s with npoll := 10, seqpos := fillerExchange :: .responsePoll :: k } :=
  pointStep_point h rfl

/-- The test of the response poll: a valid response, or the last of the bytes, ends it. -/
theorem pointStep_responsePoll {s : State} {k : List Point} (h : s.seqpos = .responsePoll :: k) :
    pointStep s = .next { s with
      npoll := s.npoll - 1
      seqpos := if s.ret.byte.getLsbD 7 = false ∨ s.npoll - 1 = 0 then k else fillerExchange :: .responsePoll :: k } := by
  cases hb : s.ret.byte.getLsbD 7 with
  | false => simpa using pointStep_responsePoll_valid h hb
  | true => simpa using pointStep_responsePoll_other h hb

/-- R1_VALID at its test ends the poll and returns the byte. -/
theorem exec_r1Valid_responsePoll {s : State} {k : List Point} {flags : BitVec 7} (h : s.seqpos = .responsePoll :: k)
    (hb : s.ret.byte = 0#1 ++ flags) :
    exec (.r1Valid flags) s = .next { s with npoll := s.npoll - 1, seqpos := k } := by
  have hr : r1Byte flags = s.ret.byte := hb.symm
  simp [exec_r1Valid, State.leaving, h, State.giveByte, hr]

/-- Settles O30: the poll's start, its test, and R1_VALID at that test. -/
theorem responsePollStops : Obligations.ResponsePollStops :=
  ⟨fun _ _ => pointStep_pollStart, fun _ _ h => ⟨pointStep_responsePoll h, fun _ => exec_r1Valid_responsePoll h⟩⟩

/-- NPOLL goes down by one, and is 0 exactly when no further pass is left (R155). -/
theorem npoll_countdown {n : Nat} (hn : n ≤ 9) :
    BitVec.ofNat 4 (n + 1) - 1 = BitVec.ofNat 4 n ∧ (BitVec.ofNat 4 n = 0 ↔ n = 0) := by
  constructor
  · rw [BitVec.ofNat_add]
    exact BitVec.add_sub_cancel _ _
  · rw [← BitVec.toNat_inj, BitVec.toNat_ofNat, Nat.mod_eq_of_lt (by omega)]
    rfl

/-- One pass of the poll, after which at most `n` more may follow: a filler exchange and the test of its byte. -/
theorem pointRun_responsePass {s : State} {k : List Point} {n : Nat} (h : s.seqpos = fillerExchange :: .responsePoll :: k)
    (hnpoll : s.npoll = BitVec.ofNat 4 (n + 1)) (hn : n ≤ 9) :
    pointRun 2 s = .next { s with
      npoll := BitVec.ofNat 4 n
      seqpos := if s.env.cardByte.getLsbD 7 = false ∨ n = 0 then k else fillerExchange :: .responsePoll :: k
      ret := { s.ret with byte := s.env.cardByte }
      env := s.env.afterAnswer
      wire := .exch 0xFF s.env.cardByte :: s.wire } := by
  obtain ⟨hdown, hzero⟩ := npoll_countdown hn
  rw [pointRun_op h (exec_exchange _ _), pointRun_succ (pointStep_responsePoll rfl)]
  simp only [State.exchangeByte, hnpoll, hdown, hzero]
  rfl

theorem polled_cons (b : Byte) (bs : List Byte) : polled (b :: bs) = polled bs ++ [.exch 0xFF b] := by
  simp [polled]

/-- The poll on a card that answers `bad` and then `r`, when at most `n` passes may follow the first: a pass for each byte of
`bad`, and the last one. -/
theorem pointRun_responsePolls (bad : List Byte) {s : State} {k : List Point} {r : Byte} {n : Nat}
    (h : s.seqpos = fillerExchange :: .responsePoll :: k) (hnpoll : s.npoll = BitVec.ofNat 4 (n + 1)) (hn : n ≤ 9)
    (hbad : ∀ b ∈ bad, b.getLsbD 7 = true) (hlen : bad.length ≤ n) (hend : r.getLsbD 7 = false ∨ bad.length = n)
    (hcard : s.env.answers (bad.length + 1) = bad ++ [r]) :
    pointRun (2 + 2 * bad.length) s = .next { s with
      npoll := BitVec.ofNat 4 (n - bad.length)
      seqpos := k
      ret := { s.ret with byte := r }
      env := s.env.afterAnswers (bad.length + 1)
      wire := polled (bad ++ [r]) ++ s.wire } := by
  induction bad generalizing s n with
  | nil =>
    obtain ⟨hr, -⟩ := List.cons.inj hcard
    have hends : s.env.cardByte.getLsbD 7 = false ∨ n = 0 := hr ▸ hend.imp_right Eq.symm
    have hpass := pointRun_responsePass h hnpoll hn
    rw [if_pos hends, hr] at hpass
    exact hpass
  | cons b bs ih =>
    obtain ⟨hb, hrest⟩ := List.cons.inj hcard
    obtain ⟨m, rfl⟩ : ∃ m, n = m + 1 := Nat.exists_eq_add_one_of_ne_zero (Nat.ne_zero_of_lt hlen)
    have hpass := pointRun_responsePass h hnpoll hn
    have hgoesOn : ¬(s.env.cardByte.getLsbD 7 = false ∨ m + 1 = 0) := by simp [hb, hbad b (.head bs)]
    rw [if_neg hgoesOn, hb] at hpass
    have hcount : 2 + 2 * (b :: bs).length = 2 + (2 + 2 * bs.length) := by rw [List.length_cons]; omega
    rw [hcount, pointRun_add hpass, ih (n := m) rfl rfl (by omega) (fun c hc => hbad c (.tail b hc))
      (Nat.le_of_succ_le_succ hlen) (hend.imp_right Nat.succ.inj) hrest]
    simp [Environment.afterAnswers, polled_cons]

/-! ## A frame and its response -/

/-- The answers to come, cut after the first `m`. -/
theorem Environment.answers_eq_append {e : Environment} {m n : Nat} {as bs : List Byte}
    (h : e.answers (m + n) = as ++ bs) (hm : as.length = m) : e.answers m = as ∧ (e.afterAnswers m).answers n = bs := by
  rw [Environment.answers_add] at h
  exact List.append_inj h (by rw [Environment.answers_length, hm])

/-- Every index and argument belong to a row whose words are their frame (30_encoding.md R80). -/
theorem encode_frameOf (c : Config) (idx : Index) (arg : Long) :
    encode c (frameOf c idx arg) = some (.frame, frameBytes c idx arg) := by
  unfold frameOf
  repeat' split
  all_goals simp_all [encode]

theorem frameBytes_length (c : Config) (idx : Index) (arg : Long) : (frameBytes c idx arg).length = 6 := rfl

/-- The bytes sent for a command: its frame, and after a stop frame the filler of step 4 (R153, R154). -/
def commandBytes (c : Config) (idx : Index) (arg : Long) : List Byte :=
  frameBytes c idx arg ++ fillersAfter (frameOf c idx arg)

theorem commandBytes_stop (c : Config) (arg : Long) :
    commandBytes c c.idxStop arg = frameBytes c c.idxStop arg ++ [0xFF] := by
  simp [commandBytes, frameOf, fillersAfter]

theorem commandBytes_standard {c : Config} {idx : Index} (arg : Long) (h : idx ≠ c.idxStop) :
    commandBytes c idx arg = frameBytes c idx arg := by
  have hnone : fillersAfter (frameOf c idx arg) = [] := by
    rw [frameOf, if_neg h]
    repeat' split
    all_goals rfl
  rw [commandBytes, hnone, List.append_nil]

theorem exec_frameOf (s : State) (idx : Index) (arg : Long) :
    exec (frameOf s.cfg idx arg) s = .next (s.push (exchangePoints (commandBytes s.cfg idx arg))) :=
  (exec_frameRow (encode_frameOf s.cfg idx arg)).2

/-- Steps 3 to 5 of `send_command`: the `n` bytes `out` of the command are exchanged for `inp`, and the poll takes `bad` and
`r` (R153 to R155). -/
theorem pointRun_framePoints {s : State} {idx : Index} {arg : Long} {k : List Point} {n : Nat} {out inp bad : List Byte}
    {r : Byte} (h : s.seqpos = .op (frameOf s.cfg idx arg) :: .pollStart :: k) (hout : commandBytes s.cfg idx arg = out)
    (hn : out.length = n) (hinp : inp.length = n) (hbad : ∀ b ∈ bad, b.getLsbD 7 = true) (hlen : bad.length ≤ 9)
    (hend : r.getLsbD 7 = false ∨ bad.length = 9)
    (hcard : s.env.answers (n + (bad.length + 1)) = inp ++ (bad ++ [r])) :
    pointRun (n + (2 + 2 * bad.length + 1) + 1) s = .next { s with
      npoll := BitVec.ofNat 4 (9 - bad.length)
      seqpos := k
      ret := { s.ret with byte := r }
      env := s.env.afterAnswers (n + (bad.length + 1))
      wire := polled (bad ++ [r]) ++ exchanged out inp ++ s.wire } := by
  subst hout hn
  obtain ⟨hsent, hpolled⟩ := Environment.answers_eq_append hcard hinp
  have hopen := exec_frameOf { s with seqpos := .pollStart :: k } idx arg
  rw [pointRun_op h hopen, pointRun_add (pointRun_exchangePoints _ rfl), pointRun_succ (pointStep_pollStart rfl),
    pointRun_responsePolls bad (n := 9) rfl rfl (Nat.le_refl 9) hbad hlen hend hpolled, s.env.afterAnswers_add _ (bad.length + 1),
    List.append_assoc, ← hsent]
  rfl

/-! ## send_command -/

/-- The stop command goes to its frame at once (R152). -/
theorem exec_sendCommand_stop (s : State) (arg : Long) : exec (.sendCommand s.cfg.idxStop arg false) s =
    .next ({ s with selto := false }.push (framePoints s.cfg s.cfg.idxStop arg)) := by
  simp [exec_sendCommand, commandPoints]

/-- Every other command first deselects and selects the card (R152). -/
theorem exec_sendCommand_standard {s : State} {idx : Index} (arg : Long) (h : idx ≠ s.cfg.idxStop) :
    exec (.sendCommand idx arg false) s = .next ({ s with selto := false }.push
      [.op .deselect, .op (.selectAndWait s.cfg.tSelect), .commandSelected idx arg]) := by
  simp [exec_sendCommand, commandPoints, h]

theorem exchanged_append {out inp : List Byte} (h : out.length = inp.length) (o i : Byte) :
    exchanged (out ++ [o]) (inp ++ [i]) = .exch o i :: exchanged out inp := by
  simp [exchanged, List.zipWith_append h]

/-- Settles O28: the stop command goes to its frame at once, and the filler is the last byte of what it sends. -/
theorem sendCommandStop : Obligations.SendCommandStop := by
  intro s arg f bad z r hf hbad hlen hend hcard
  have hanswers : 8 + bad.length = 7 + (bad.length + 1) := by omega
  have hcount : 11 + 2 * bad.length = 7 + (2 + 2 * bad.length + 1) + 1 := by omega
  have hcut : f ++ z :: bad ++ [r] = (f ++ [z]) ++ (bad ++ [r]) := by simp
  rw [hanswers, hcut] at hcard
  refine ⟨_, exec_sendCommand_stop s arg, ?_⟩
  have hrun := pointRun_framePoints (s := { s with selto := false }.push (framePoints s.cfg s.cfg.idxStop arg))
    (n := 7) (inp := f ++ [z]) rfl (commandBytes_stop s.cfg arg) rfl (by simp [hf]) hbad hlen hend hcard
  rw [exchanged_append ((frameBytes_length s.cfg s.cfg.idxStop arg).trans hf.symm)] at hrun
  rw [hcount, hanswers]
  simpa using hrun

/-- Step 2 of a standard command: a deselection, and the selection of O24 (R152). -/
theorem pointRun_reselect {s : State} {t : Nat} {k : List Point} {x y : Byte} {busy : List Byte}
    (h : s.seqpos = .op .deselect :: .op (.selectAndWait t) :: k) (ht : t ≤ s.cfg.maxDuration) (htimer : busy = [] ∨ 0 < t)
    (hbusy : ∀ b ∈ busy, b ≠ 0xFF) (hcard : s.env.answers (busy.length + 2 + 1) = x :: (y :: busy ++ [0xFF])) :
    pointRun (3 + (8 + 4 * busy.length + 1)) s = .next { s with
      seqpos := k
      csa := true
      tcount := t
      ret := { s.ret with byte := 0xFF, ok := true }
      env := s.env.afterAnswers (busy.length + 2 + 1)
      wire := .exch 0xFF 0xFF :: timedPolls busy ++ .arm t :: .exch 0xFF y :: .sel :: .exch 0xFF x :: .desel :: s.wire } := by
  obtain ⟨hx, hrest⟩ := List.cons.inj hcard
  let free := ({ s with seqpos := .op (.selectAndWait t) :: k }.driveCS false).exchangeByte 0xFF
  have hdeselect : pointRun 3 s = .next free := (pointRun_op h (exec_deselect _)).trans (pointRun_setCS_filler rfl)
  obtain ⟨u, hu, hselect⟩ := selectAndWaitSucceeds { free with seqpos := k } t y busy ht htimer hbusy hrest
  rw [pointRun_add hdeselect, pointRun_op (s := free) rfl hu, hselect, ← hx]
  rfl

/-- Settles O27: the deselection and selection, and then the frame and the poll. -/
theorem sendCommandStandard : Obligations.SendCommandStandard := by
  intro s idx arg x y busy f bad r hidx ht htimer hbusy hf hbad hlen hend hcard
  have hanswers : 10 + busy.length + bad.length = (busy.length + 2 + 1) + (6 + (bad.length + 1)) := by omega
  have hcount : 23 + 4 * busy.length + 2 * bad.length =
    3 + (8 + 4 * busy.length + 1) + ((6 + (2 + 2 * bad.length + 1) + 1) + 1) := by omega
  have hcut : x :: y :: busy ++ 0xFF :: f ++ bad ++ [r] = (x :: (y :: busy ++ [0xFF])) ++ (f ++ (bad ++ [r])) := by simp
  rw [hanswers, hcut] at hcard
  obtain ⟨hselecting, hframing⟩ := Environment.answers_eq_append hcard (by simp)
  refine ⟨_, exec_sendCommand_standard arg hidx, ?_⟩
  have hreselect := pointRun_reselect
    (s := { s with selto := false }.push [.op .deselect, .op (.selectAndWait s.cfg.tSelect), .commandSelected idx arg])
    rfl ht htimer hbusy hselecting
  rw [hcount, hanswers, pointRun_add hreselect, pointRun_succ (pointStep_commandSelected_ready rfl rfl)]
  refine Eq.trans (pointRun_framePoints rfl (commandBytes_standard arg hidx) rfl hf hbad hlen hend hframing) ?_
  simp [Environment.afterAnswers_add]

end Sys2Proof.Machine

/-! # The Block Transfer Engine (43_block_transfer.md)

Both loops over BIDX (R182, R188) make one exchange for each byte of BUF, and so do the trailer and the data response after
them. A whole transfer is then one list of bytes exchanged, with BUF as the only other thing that may change. -/

namespace Sys2Proof.Machine

/-! ## The start-token poll -/

theorem exec_startTokenRead_tokenPoll {s : State} {k : List Point} (h : s.seqpos = .tokenPoll :: k) :
    exec .startTokenRead s = .next { s with bidx := 0, seqpos := .payloadIn :: k } := by
  simp [exec_startTokenRead, State.leaving, h, State.push]

/-- After the read of `Expired()` the poll has ended with 0xFF and the read has failed, or the poll goes on with one more
exchange. -/
theorem pointStep_tokenExpired {s : State} {k : List Point} (h : s.seqpos = .tokenExpired :: k) :
    pointStep s = .next { s with
      seqpos := if s.ret.ok then k else fillerExchange :: .tokenPoll :: k
      ret := { s.ret with byte := if s.ret.ok then 0xFF else s.ret.byte, ok := false } } := by
  rw [pointStep_point h rfl]
  simp only [runPoint, pointTokenExpired]
  cases hok : s.ret.ok with
  | true => rfl
  | false => simp [Returned.with_ok_self hok, State.push]

/-- 0xFF has the timer read. -/
theorem pointRun_tokenPoll_filler {s : State} {k : List Point} (h : s.seqpos = .tokenPoll :: k)
    (hb : s.ret.byte = 0xFF) :
    pointRun 3 s = .next { s with
      ret := { s.ret with ok := false }
      seqpos := if s.tcount = 0 then k else fillerExchange :: .tokenPoll :: k
      wire := .expired (s.tcount == 0) :: s.wire } := by
  rw [pointRun_succ (pointStep_tokenPoll_filler h hb), pointRun_op rfl (exec_expired _),
    pointRun_succ (pointStep_tokenExpired rfl)]
  simp [State.readExpired, hb]

/-- Settles O33: the three branches of the test, the one on 0xFF with its read of the timer. -/
theorem tokenPollEnds : Obligations.TokenPollEnds := by
  intro s k h
  refine ⟨exec_startTokenRead_tokenPoll h, fun hstart => ?_, pointStep_tokenPoll_other h, pointRun_tokenPoll_filler h⟩
  rw [exec_startTokenRead_tokenPoll h]
  exact pointStep_tokenPoll_start h hstart

/-- One pass of the poll before the start token, while the timer runs: an exchange, and a read of `Expired()` that is false. -/
theorem pointRun_tokenWaitPass {s : State} {k : List Point} (h : s.seqpos = fillerExchange :: .tokenPoll :: k)
    (hb : s.env.cardByte = 0xFF) (ht : s.tcount ≠ 0) :
    pointRun 4 s = .next { s with
      ret := { s.ret with byte := 0xFF, ok := false }
      env := s.env.afterAnswer
      wire := .expired false :: .exch 0xFF 0xFF :: s.wire } := by
  rw [pointRun_op h (exec_exchange _ _), pointRun_tokenPoll_filler rfl hb]
  simp [State.exchangeByte, ht, h, hb, Param.filler]

/-- The last pass of the poll: an exchange that brings the start token. -/
theorem pointRun_tokenPass {s : State} {k : List Point} (h : s.seqpos = fillerExchange :: .tokenPoll :: k)
    (hb : s.env.cardByte = 0xFE) :
    pointRun 2 s = .next { s with
      bidx := 0
      seqpos := .payloadIn :: k
      ret := { s.ret with byte := 0xFE }
      env := s.env.afterAnswer
      wire := .exch 0xFF 0xFE :: s.wire } := by
  rw [pointRun_op h (exec_exchange _ _), pointRun_succ (pointStep_tokenPoll_start rfl hb)]
  simp [State.exchangeByte, hb, Param.filler]

/-- The poll on a card that sends the start token after `n` bytes 0xFF. The Boolean is false once the timer has been read. -/
theorem pointRun_tokenPolls (n : Nat) {s : State} {k : List Point} (h : s.seqpos = fillerExchange :: .tokenPoll :: k)
    (ht : n = 0 ∨ s.tcount ≠ 0) (hcard : s.env.answers (n + 1) = List.replicate n 0xFF ++ [0xFE]) :
    pointRun (2 + 4 * n) s = .next { s with
      bidx := 0
      seqpos := .payloadIn :: k
      ret := { s.ret with byte := 0xFE, ok := n == 0 && s.ret.ok }
      env := s.env.afterAnswers (n + 1)
      wire := .exch 0xFF 0xFE :: timedPolls (List.replicate n 0xFF) ++ s.wire } := by
  induction n generalizing s with
  | zero => exact pointRun_tokenPass h (List.cons.inj hcard).1
  | succ n ih =>
    obtain ⟨hb, hrest⟩ := List.cons.inj hcard
    have htimer : s.tcount ≠ 0 := ht.resolve_left n.succ_ne_zero
    have hcount : 2 + 4 * (n + 1) = 4 + (2 + 4 * n) := by omega
    rw [hcount, pointRun_add (pointRun_tokenWaitPass h hb htimer), List.replicate_succ, timedPolls_cons]
    refine Eq.trans (ih h (.inr htimer) hrest) ?_
    simp [Environment.afterAnswers]

/-! ## Many exchanges one after the other -/

theorem Environment.answers_drop (m n : Nat) (e : Environment) :
    (e.answers (m + n)).drop m = (e.afterAnswers m).answers n := by
  rw [Environment.answers_add, List.drop_left' (e.answers_length m)]

theorem Environment.answers_take (m n : Nat) (e : Environment) : (e.answers (m + n)).take m = e.answers m := by
  rw [Environment.answers_add, List.take_left' (e.answers_length m)]

/-- A card whose next answers are set gives them in order. -/
theorem Environment.answers_set (bs rest : List Byte) (e : Environment) :
    { e with card := bs ++ rest }.answers bs.length = bs := by
  induction bs with
  | nil => rfl
  | cons b bs ih => exact congrArg (b :: ·) ih

theorem exchanged_fillers (inp : List Byte) : exchanged (List.replicate inp.length 0xFF) inp = polled inp := by
  induction inp with
  | nil => rfl
  | cons b bs ih => rw [List.length_cons, List.replicate_succ, exchanged_cons, ih, polled_cons]

theorem sentBytes_exchanged {out inp : List Byte} (h : out.length = inp.length) : sentBytes (exchanged out inp) = out := by
  induction out generalizing inp with
  | nil => rfl
  | cons o out ih =>
    cases inp with
    | nil => cases h
    | cons i inp =>
      have hfirst (w : List BusEvent) : sentBytes (w ++ [.exch o i]) = o :: sentBytes w := by simp [sentBytes]
      rw [exchanged_cons, hfirst, ih (Nat.succ.inj h)]

/-- The exchanges of the bytes `out`, one after the other, as `pointRun_exchangePoints` makes them. -/
def State.exchangeBytes (s : State) (out : List Byte) : State :=
  { s with
    ret := { s.ret with byte := (s.env.answers out.length).getLastD s.ret.byte }
    env := s.env.afterAnswers out.length
    wire := exchanged out (s.env.answers out.length) ++ s.wire }

theorem State.exchangeBytes_cons (s : State) (o : Byte) (out : List Byte) :
    s.exchangeBytes (o :: out) = (s.exchangeByte o).exchangeBytes out := by
  simp only [State.exchangeBytes, List.length_cons, Environment.answers, Environment.afterAnswers, exchanged_cons,
    List.getLastD_cons, List.append_assoc]
  rfl

theorem State.exchangeBytes_append (s : State) (as bs : List Byte) :
    s.exchangeBytes (as ++ bs) = (s.exchangeBytes as).exchangeBytes bs := by
  induction as generalizing s with
  | nil => rfl
  | cons a as ih => rw [List.cons_append, State.exchangeBytes_cons, ih, ← State.exchangeBytes_cons]

/-! ## The bytes of BUF -/

/-- BIDX counts the bytes of BUF without wrapping. -/
theorem bidx_succ {b : BitVec 10} (h : b.toNat < 512) : (b + 1).toNat = b.toNat + 1 := by
  rw [BitVec.toNat_add]
  exact Nat.mod_eq_of_lt (Nat.lt_trans (Nat.succ_lt_succ h) (by decide))

/-- BUF after the bytes `bs` are written from `a` on, in ascending order. -/
def Memory.putBytes (m : Memory) (a : Nat) : List Byte → Memory
  | [] => m
  | b :: bs => (m.put a b).putBytes (a + 1) bs

theorem Memory.get?_putBytes_outside {m : Memory} {a b : Nat} {bs : List Byte} (h : b < a ∨ a + bs.length ≤ b) :
    (m.putBytes a bs).get? b = m.get? b := by
  induction bs generalizing m a with
  | nil => rfl
  | cons c bs ih =>
    rw [List.length_cons] at h
    rw [Memory.putBytes, ih (by omega), Memory.get?_put_other m c (by omega)]

theorem Memory.get?_putBytes_inside {m : Memory} {a i : Nat} {bs : List Byte} (h : i < bs.length) :
    (m.putBytes a bs).get? (a + i) = some bs[i] := by
  induction bs generalizing m a i with
  | nil => cases h
  | cons c bs ih =>
    cases i with
    | zero => exact (Memory.get?_putBytes_outside (.inl a.lt_succ_self)).trans (Memory.get?_put_same m a c)
    | succ i =>
      rw [Memory.putBytes, Nat.add_left_comm a i 1, Nat.add_comm i, ih (Nat.lt_of_succ_lt_succ h)]
      rfl

theorem State.bufBytes_length (s : State) : s.bufBytes.length = 512 := by simp [State.bufBytes]

theorem State.bufBytes_congr {s t : State} (h : s.buf = t.buf) : s.bufBytes = t.bufBytes :=
  List.map_congr_left fun a _ => State.bufRead_congr h a

theorem State.bufBytes_of_putBytes {v : State} {m : Memory} {bs : List Byte} (h : v.buf = m.putBytes 0 bs)
    (hlen : bs.length = 512) : v.bufBytes = bs := by
  refine List.ext_getElem (by simp [State.bufBytes, hlen]) fun i _ hi => ?_
  have hread := Memory.get?_putBytes_inside (m := m) (a := 0) hi
  rw [Nat.zero_add] at hread
  simp [State.bufBytes, State.bufRead, h, hread]

theorem State.bufRead_of_putBytes {s v : State} {bs : List Byte} {a : Nat} (h : v.buf = s.buf.putBytes 0 bs)
    (ha : bs.length ≤ a) : v.bufRead a = s.bufRead a := by
  simp only [State.bufRead, h, Memory.get?_putBytes_outside (.inr (Nat.zero_add bs.length ▸ ha))]

theorem State.bufBytes_eq_iff {s t : State} : s.bufBytes = t.bufBytes ↔ ∀ a < 512, s.bufRead a = t.bufRead a := by
  simp [State.bufBytes]

/-! ## Receiving the payload -/

/-- The head of the receive loop: another pass, or the trailer (R182, R183). -/
theorem pointStep_payloadIn {s : State} {k : List Point} (h : s.seqpos = .payloadIn :: k) :
    pointStep s = .next { s with
      seqpos := (if s.bidx.toNat < 512 then [fillerExchange, .storeByte]
        else [fillerExchange, fillerExchange, .blockReceived]) ++ k } :=
  pointStep_point h rfl

/-- One pass of the receive loop: an exchange, and its byte in BUF (R182). -/
theorem pointRun_storePass {s : State} {k : List Point} (h : s.seqpos = .payloadIn :: k) (hb : s.bidx.toNat < 512) :
    pointRun 3 s = .next { s.exchangeByte 0xFF with
      bidx := s.bidx + 1
      buf := s.buf.put s.bidx.toNat s.env.cardByte } := by
  rw [pointRun_succ (pointStep_payloadIn h), if_pos hb, pointRun_op rfl (exec_exchange _ _)]
  refine Eq.trans (pointRun_point rfl rfl (if_pos hb)) ?_
  simp [State.push, State.bufWrite, State.exchangeByte, Param.filler, h]

/-- The receive loop, with `n` bytes of BUF still to come. -/
theorem pointRun_storeLoop (n : Nat) {s : State} {k : List Point} (h : s.seqpos = .payloadIn :: k)
    (hn : s.bidx.toNat + n = 512) :
    pointRun (3 * n) s = .next { s.exchangeBytes (List.replicate n 0xFF) with
      bidx := 512
      buf := s.buf.putBytes s.bidx.toNat (s.env.answers n) } := by
  induction n generalizing s with
  | zero =>
    have hend : s.bidx = 512 := BitVec.toNat_inj.mp hn
    rw [← hend]
    rfl
  | succ n ih =>
    have hnext : (s.bidx + 1).toNat = s.bidx.toNat + 1 := bidx_succ (by omega)
    have hcount : 3 * (n + 1) = 3 + 3 * n := by omega
    rw [hcount, pointRun_add (pointRun_storePass h (by omega))]
    refine Eq.trans (ih h (by simp only [hnext]; omega)) ?_
    rw [List.replicate_succ, State.exchangeBytes_cons, hnext]
    rfl

/-- After the last byte of BUF: the two bytes of the trailer, which are discarded (R183). -/
theorem pointRun_blockTrailer {s : State} {k : List Point} (h : s.seqpos = .payloadIn :: k) (hb : s.bidx.toNat = 512) :
    pointRun 4 s = .next { s.exchangeBytes [0xFF, 0xFF] with
      seqpos := k
      ret := { s.ret with byte := 0xFE, ok := true } } := by
  rw [pointRun_succ (pointStep_payloadIn h), if_neg (Nat.not_lt_of_le (Nat.le_of_eq hb.symm)),
    pointRun_add (m := 2) (n := 1) (pointRun_exchangePoints [0xFF, 0xFF] rfl)]
  exact pointRun_point rfl rfl rfl

/-- The payload and the trailer, from BUF[0] on, with `n` the size of BUF (R182, R183). -/
theorem pointRun_receivePayload {n : Nat} {s : State} {k : List Point} (h : s.seqpos = .payloadIn :: k)
    (hb : s.bidx = 0) (hn : n = 512) :
    pointRun (3 * n + 4) s = .next { s.exchangeBytes (List.replicate (n + 2) 0xFF) with
      bidx := 512
      seqpos := k
      ret := { s.ret with byte := 0xFE, ok := true }
      buf := s.buf.putBytes 0 (s.env.answers n) } := by
  have hzero : s.bidx.toNat = 0 := congrArg BitVec.toNat hb
  have hloop := pointRun_storeLoop n h (by omega)
  rw [pointRun_add hloop, ← List.replicate_append_replicate, State.exchangeBytes_append, ← hzero]
  exact pointRun_blockTrailer h rfl

/-- The payload after `k` bytes 0xFF and the start token. -/
theorem Environment.answers_payload (k : Nat) (e : Environment) :
    ((e.answers (k + 515)).drop (k + 1)).take 512 = (e.afterAnswers (k + 1)).answers 512 := by
  have hcut : k + 515 = k + 1 + (512 + 2) := by omega
  rw [hcut, Environment.answers_drop, Environment.answers_take]

/-- The wire of a block after `k` bytes 0xFF: the start token, the payload and the trailer. -/
theorem polled_block {k : Nat} {e : Environment} (h : e.answers (k + 1) = List.replicate k 0xFF ++ [0xFE]) :
    polled ((e.answers (k + 515)).drop k) =
      exchanged (List.replicate (512 + 2) 0xFF) ((e.afterAnswers (k + 1)).answers (512 + 2)) ++ [.exch 0xFF 0xFE] := by
  have hcut : k + 515 = k + 1 + (512 + 2) := by omega
  have hfillers := exchanged_fillers ((e.afterAnswers (k + 1)).answers (512 + 2))
  rw [Environment.answers_length] at hfillers
  rw [hcut, Environment.answers_add, h, List.append_assoc, List.drop_left' List.length_replicate, hfillers]
  exact polled_cons _ _

/-- `receive_block` from its `Arm` on: the poll of the start token, then the payload and the trailer. -/
theorem pointRun_receiveBlock {s : State} {t k : Nat} {ps : List Point}
    (h : s.seqpos = .op (.arm t) :: fillerExchange :: .tokenPoll :: ps) (ht : t ≤ s.cfg.maxDuration)
    (htimer : k = 0 ∨ 0 < t) (hcard : s.env.answers (k + 1) = List.replicate k 0xFF ++ [0xFE]) :
    pointRun (1543 + 4 * k) s = .next { s with
      tcount := t
      bidx := 512
      seqpos := ps
      ret := { s.ret with byte := 0xFE, ok := true }
      buf := s.buf.putBytes 0 (((s.env.answers (k + 515)).drop (k + 1)).take 512)
      env := s.env.afterAnswers (k + 515)
      wire := polled ((s.env.answers (k + 515)).drop k) ++ timedPolls (List.replicate k 0xFF) ++ .arm t :: s.wire } := by
  have hcount : 1543 + 4 * k = (2 + 4 * k + (3 * 512 + 4)) + 1 := by omega
  have hcut : k + 515 = k + 1 + (512 + 2) := by omega
  rw [Environment.answers_payload, polled_block hcard, hcut, s.env.afterAnswers_add (k + 1), hcount,
    pointRun_succ (pointStep_arm h ht)]
  refine Eq.trans (pointRun_add (pointRun_tokenPolls k rfl (htimer.imp_right Nat.ne_of_gt) hcard)) ?_
  refine Eq.trans (pointRun_receivePayload (n := 512) rfl rfl rfl) ?_
  simp only [State.exchangeBytes, State.armTimer, List.length_replicate, List.append_assoc, List.cons_append,
    List.nil_append]

/-- Settles O32: the run of `receive_block` gives every field, and BUF reads as the payload. -/
theorem receiveBlockStoresPayload : Obligations.ReceiveBlockStoresPayload := by
  intro s t k ht htimer hcard
  have hlen : (((s.env.answers (k + 515)).drop (k + 1)).take 512).length = 512 := by
    rw [Environment.answers_payload, Environment.answers_length]
  exact ⟨_, exec_receiveBlock t s, _, pointRun_receiveBlock rfl ht htimer hcard, rfl,
    State.bufBytes_of_putBytes rfl hlen, fun a ha => State.bufRead_of_putBytes rfl (Nat.le_trans (Nat.le_of_eq hlen) ha)⟩

/-! ## Sending the payload -/

/-- The head of the send loop: another pass, or the trailer and the data response (R188 to R190). -/
theorem pointStep_payloadOut {s : State} {k : List Point} (h : s.seqpos = .payloadOut :: k) :
    pointStep s = .next { s with
      seqpos := (if s.bidx.toNat < 512 then [.op (.exchange (s.bufRead s.bidx.toNat)), .payloadNext]
        else [fillerExchange, fillerExchange, fillerExchange, .dataResponse]) ++ k } :=
  pointStep_point h rfl

/-- One pass of the send loop: the byte of BUF at BIDX is exchanged (R188). -/
theorem pointRun_sendPass {s : State} {k : List Point} (h : s.seqpos = .payloadOut :: k) (hb : s.bidx.toNat < 512) :
    pointRun 3 s = .next { s.exchangeByte (s.bufRead s.bidx.toNat) with bidx := s.bidx + 1 } := by
  rw [pointRun_succ (pointStep_payloadOut h), if_pos hb, pointRun_op rfl (exec_exchange _ _)]
  refine Eq.trans (pointRun_point rfl rfl rfl) ?_
  simp [State.push, State.exchangeByte, h]

/-- The send loop, with `n` bytes of BUF still to come. -/
theorem pointRun_sendLoop (n : Nat) {s : State} {k : List Point} (h : s.seqpos = .payloadOut :: k)
    (hn : s.bidx.toNat + n = 512) :
    pointRun (3 * n) s = .next { s.exchangeBytes ((List.range' s.bidx.toNat n).map s.bufRead) with bidx := 512 } := by
  induction n generalizing s with
  | zero =>
    have hend : s.bidx = 512 := BitVec.toNat_inj.mp hn
    rw [← hend]
    rfl
  | succ n ih =>
    have hnext : (s.bidx + 1).toNat = s.bidx.toNat + 1 := bidx_succ (by omega)
    have hcount : 3 * (n + 1) = 3 + 3 * n := by omega
    rw [hcount, pointRun_add (pointRun_sendPass h (by omega))]
    refine Eq.trans (ih h (by simp only [hnext]; omega)) ?_
    rw [List.range'_succ, List.map_cons, State.exchangeBytes_cons, hnext]
    rfl

/-- The verdict on the data response just received: its low five bits are 00101 (R190). -/
def State.judged (s : State) : State :=
  { s with ret := { s.ret with ok := decide (s.ret.byte &&& 0x1F = 0x05) } }

/-- After the last byte of BUF: the two bytes of the trailer and the data response (R189, R190). -/
theorem pointRun_dataResponse {s : State} {k : List Point} (h : s.seqpos = .payloadOut :: k)
    (hb : s.bidx.toNat = 512) :
    pointRun 5 s = .next { s.exchangeBytes [0xFF, 0xFF, 0xFF] with seqpos := k }.judged := by
  rw [pointRun_succ (pointStep_payloadOut h), if_neg (Nat.not_lt_of_le (Nat.le_of_eq hb.symm)),
    pointRun_add (m := 3) (n := 1) (pointRun_exchangePoints [0xFF, 0xFF, 0xFF] rfl)]
  exact pointRun_succ (pointStep_dataResponse rfl)

/-- The payload `bs`, which is BUF with its `n` bytes, and what follows it on the wire (R188 to R190). -/
theorem pointRun_sendPayload {n : Nat} {s : State} {k : List Point} {bs : List Byte} (h : s.seqpos = .payloadOut :: k)
    (hb : s.bidx = 0) (hn : n = 512) (hbs : bs = s.bufBytes) :
    pointRun (3 * n + 5) s =
      .next { s.exchangeBytes (bs ++ [0xFF, 0xFF, 0xFF]) with bidx := 512, seqpos := k }.judged := by
  have hzero : s.bidx.toNat = 0 := congrArg BitVec.toNat hb
  have hrange : bs = (List.range' s.bidx.toNat n).map s.bufRead := by
    rw [hbs, hn, hzero, State.bufBytes, List.range_eq_range']
  have hloop := pointRun_sendLoop n h (by omega)
  rw [pointRun_add hloop, ← hrange, State.exchangeBytes_append]
  exact pointRun_dataResponse h rfl

/-- The token of a real data block, with the payload to follow from BUF[0] (R187). -/
theorem pointRun_token {s : State} {k : List Point} {token : Byte}
    (h : s.seqpos = .op (.exchange token) :: .payloadStart :: k) :
    pointRun 2 s = .next { s.exchangeByte token with bidx := 0, seqpos := .payloadOut :: k } := by
  rw [pointRun_op h (exec_exchange _ _)]
  exact pointRun_point rfl rfl rfl

/-- The bytes the block sends for a payload: the token, the payload, two fillers for the trailer and one for the data
response (R187 to R190). -/
def blockBytes (token : Byte) (payload : List Byte) : List Byte := token :: payload ++ [0xFF, 0xFF, 0xFF]

theorem blockBytes_length (token : Byte) {bs : List Byte} (h : bs.length = 512) : (blockBytes token bs).length = 516 := by
  simp [blockBytes, h]

/-- A data block from its token on, and the data response that ends it (R187 to R190). -/
theorem pointRun_sendBlock {s : State} {k : List Point} {token resp : Byte} {bs : List Byte}
    (h : s.seqpos = .op (.exchange token) :: .payloadStart :: k) (hbs : bs = s.bufBytes)
    (hresp : resp = (s.env.answers 516).getLastD 0) :
    pointRun 1543 s = .next { s with
      bidx := 512
      seqpos := k
      ret := { s.ret with byte := resp, ok := decide (resp &&& 0x1F = 0x05) }
      env := s.env.afterAnswers 516
      wire := exchanged (blockBytes token bs) (s.env.answers 516) ++ s.wire } := by
  have hcount : 1543 = 2 + (3 * 512 + 5) := rfl
  have hrun : pointRun 1543 s =
      .next { s.exchangeBytes (blockBytes token bs) with bidx := 512, seqpos := k }.judged := by
    rw [hcount, pointRun_add (pointRun_token h), blockBytes, List.cons_append, State.exchangeBytes_cons]
    exact pointRun_sendPayload (n := 512) rfl rfl rfl (hbs.trans (State.bufBytes_congr rfl))
  have hlast := s.env.answers_getLastD (n := 516) (by decide) s.ret.byte 0
  rw [hrun, hresp, ← hlast]
  simp only [State.judged, State.exchangeBytes, blockBytes_length token (hbs ▸ s.bufBytes_length)]

/-! ## send_block -/

/-- After a ready-wait that returned true the token is sent (R186, R187). -/
theorem pointStep_blockReady_ready {s : State} {token : Byte} {k : List Point} (h : s.seqpos = .blockReady token :: k)
    (hok : s.ret.ok = true) : pointStep s = .next { s with seqpos := tokenPoints s.cfg token ++ k } := by
  rw [pointStep_point h rfl]
  simp [runPoint, pointBlockReady, hok, State.push]

/-- After a ready-wait that returned false the block is not sent (R186). -/
theorem pointStep_blockReady_timeout {s : State} {token : Byte} {k : List Point}
    (h : s.seqpos = .blockReady token :: k) (hok : s.ret.ok = false) :
    pointStep s = .next { s with selto := true, seqpos := k, ret := { s.ret with byte := 0xFF, ok := false } } := by
  rw [pointStep_point h rfl]
  simp [runPoint, pointBlockReady, hok, State.giveByte, State.giveOk]

/-- Any token but the stop token opens its exchange and the payload: the write token through its row, which is one point more. -/
theorem pointRun_tokenPoints {s : State} {token : Byte} {k : List Point} {row : Nat} (n : Nat)
    (h : s.seqpos = tokenPoints s.cfg token ++ k) (hstop : token ≠ s.cfg.stopToken)
    (hrow : row = if token = s.cfg.dataTokenWrite then 1 else 0) :
    pointRun (n + row) s = pointRun n { s with seqpos := .op (.exchange token) :: .payloadStart :: k } := by
  rw [tokenPoints, if_neg hstop] at h
  by_cases hwrite : token = s.cfg.dataTokenWrite
  · rw [if_pos hwrite] at h hrow
    rw [hrow, pointRun_op h (exec_dataTokenWrite _), hwrite]
    rfl
  · rw [if_neg hwrite] at h hrow
    rw [hrow]
    exact congrArg (fun ps => pointRun n { s with seqpos := ps }) h

/-- `send_block` after a ready-wait that returned true, for a token that a payload follows. -/
theorem pointRun_blockReady {s : State} {token resp : Byte} {k : List Point} {row : Nat} {bs : List Byte}
    (h : s.seqpos = .blockReady token :: k) (hok : s.ret.ok = true) (hstop : token ≠ s.cfg.stopToken)
    (hrow : row = if token = s.cfg.dataTokenWrite then 1 else 0) (hbs : bs = s.bufBytes)
    (hresp : resp = (s.env.answers 516).getLastD 0) :
    pointRun (1543 + row + 1) s = .next { s with
      bidx := 512
      seqpos := k
      ret := { s.ret with byte := resp, ok := decide (resp &&& 0x1F = 0x05) }
      env := s.env.afterAnswers 516
      wire := exchanged (blockBytes token bs) (s.env.answers 516) ++ s.wire } := by
  rw [pointRun_succ (pointStep_blockReady_ready h hok)]
  refine Eq.trans (pointRun_tokenPoints 1543 rfl hstop hrow) ?_
  exact pointRun_sendBlock rfl (hbs.trans (State.bufBytes_congr rfl)) hresp

/-- Settles O34: the ready-wait of O21, then the token and the block. -/
theorem sendBlockSendsBuf : Obligations.SendBlockSendsBuf := by
  intro s token busy hfits hbusy hstop hcard inp resp row
  have hcut : busy.length + 517 = busy.length + 1 + 516 := by omega
  have hinp : inp = (s.env.afterAnswers (busy.length + 1)).answers 516 := s.env.answers_drop (busy.length + 1) 516
  have hcount : 1548 + row + 4 * busy.length = (3 + 4 * busy.length + ((1543 + row) + 1)) + 1 := by omega
  obtain ⟨u, hu, hwait⟩ := waitReadyReturnsTrueAtFF { s with seqpos := .blockReady token :: s.seqpos } 500 busy hfits
    (.inr (by decide)) hbusy hcard
  refine ⟨_, exec_sendBlock token s, ?_⟩
  rw [hcount, pointRun_op (s := s.push _) rfl hu, pointRun_add hwait]
  refine Eq.trans (pointRun_blockReady (resp := resp) rfl rfl hstop rfl (State.bufBytes_congr (s := s) rfl)
    (congrArg (·.getLastD 0) hinp)) ?_
  rw [hinp, hcut, s.env.afterAnswers_add (busy.length + 1)]
  simp only [blockBytes, List.append_assoc]

/-- Settles O36: the two branches after the ready-wait, and the exchange of the stop token. -/
theorem sendBlockTimeoutAndStopToken : Obligations.SendBlockTimeoutAndStopToken := by
  refine ⟨fun s token k => pointStep_blockReady_timeout, fun s => ⟨_, exec_stopToken s, ?_⟩, fun s k h hok => ?_⟩
  · rw [pointRun_op rfl (exec_exchange _ _)]
    exact pointRun_point rfl rfl rfl
  · rw [pointStep_blockReady_ready h hok, tokenPoints, if_pos rfl]
    rfl

theorem exec_dataRespAccept_dataResponse {s : State} {k : List Point} {high : BitVec 3}
    (h : s.seqpos = .dataResponse :: k) (hb : s.ret.byte = high ++ 0b00101#5) :
    exec (.dataRespAccept high) s = .next { s with seqpos := k, ret := { s.ret with ok := true } } := by
  have hbyte : acceptByte high = s.ret.byte := hb.symm
  simp [exec_dataRespAccept, State.leaving, h, State.giveByte, State.giveOk, hbyte]

/-- Settles O35: the token's two points, and the test of the data response with its row. -/
theorem writeTokenAndDataResponse : Obligations.WriteTokenAndDataResponse :=
  ⟨fun s => ⟨_, exec_dataTokenWrite s, pointRun_token rfl⟩,
    fun _ _ h => ⟨pointStep_dataResponse h, fun _ => exec_dataRespAccept_dataResponse h⟩⟩

/-! ## The round trip -/

/-- A block read from its start token on leaves the card's next answers in BUF. -/
theorem startTokenRead_buf (s : State) : ∃ t u, exec .startTokenRead s = .next t ∧ pointRun 1540 t = .next u ∧
    u.buf = s.buf.putBytes 0 (s.env.answers 512) :=
  ⟨_, _, exec_startTokenRead s, pointRun_receivePayload (n := 512) rfl rfl rfl, by dsimp only [State.push]⟩

/-- Settles O37: the bytes sent after the token are BUF's, and the receive loop puts what the card answers into BUF. -/
theorem blockRoundTrip : Obligations.BlockRoundTrip := by
  intro s r rest
  refine ⟨_, _, _, exec_dataTokenWrite s, pointRun_sendBlock rfl rfl rfl, rfl, ?_⟩
  intro echo
  have hsent : (blockBytes s.cfg.dataTokenWrite s.bufBytes).length = (s.env.answers 516).length := by
    rw [blockBytes_length _ s.bufBytes_length, Environment.answers_length]
  have hecho : echo = s.bufBytes := by
    refine (congrArg (fun bs => (bs.drop 1).take 512) (sentBytes_exchanged hsent)).trans ?_
    exact List.take_left' s.bufBytes_length
  have hcard : { r.env with card := echo ++ rest }.answers 512 = s.bufBytes := by
    rw [hecho, ← s.bufBytes_length, Environment.answers_set]
  obtain ⟨p, q, hp, hq, hbuf⟩ := startTokenRead_buf { r with env := { r.env with card := echo ++ rest } }
  rw [hcard] at hbuf
  refine ⟨p, q, hp, hq, State.bufBytes_eq_iff.mp (State.bufBytes_of_putBytes hbuf s.bufBytes_length), fun a ha => ?_⟩
  exact State.bufRead_of_putBytes hbuf (Nat.le_trans (Nat.le_of_eq s.bufBytes_length) ha)

end Sys2Proof.Machine

/-! # The Card Initializer (44_initializer.md)

INITIALIZE sets the slow clock, waits for T_POWERUP ticks and then makes its go-idle attempts, each opened by a dummy block
(R211 to R217). FINISH tests LASTR1 (R219, R220). Both end a failure the same way: the Error state, `release()`, and the
completion with the negated code. -/

namespace Sys2Proof.Machine

/-! ## Control flow of a few points -/

/-- Once the control flow has ended, a larger bound changes nothing. -/
theorem settleFor_add {n : Nat} (m : Nat) {s u : State} (h : settleFor n s = .next u) (hu : u.settled = true) :
    settleFor (n + m) s = .next u := by
  induction n generalizing s with
  | zero =>
    cases h
    exact settleFor_settled hu
  | succ n ih =>
    rw [Nat.succ_add]
    cases hs : s.settled with
    | true =>
      rw [settleFor_settled hs] at h ⊢
      exact h
    | false =>
      simp only [settleFor, hs, Bool.false_eq_true, if_false] at h ⊢
      obtain ⟨t, ht, h⟩ := andThen_eq_next.mp h
      exact andThen_eq_next.mpr ⟨t, ht, ih h⟩

/-- Eight points are always allowed (`settleBound`). -/
theorem settle_of_settleFor {n : Nat} {s u : State} (h : settleFor n s = .next u) (hu : u.settled = true) (hn : n ≤ 8) :
    s.settle = .next u := by
  obtain ⟨m, hm⟩ := Nat.exists_eq_add_of_le (Nat.le_trans hn (Nat.le_add_left 8 (8 * s.seqpos.length)))
  rw [State.settle, settleBound, hm]
  exact settleFor_add m h hu

/-- A step of SEQ is its point and a control flow that ends. -/
theorem seqStep_of_settleFor {n : Nat} {s t u : State} (h : pointStep s = .next t) (ht : settleFor n t = .next u)
    (hu : u.settled = true) (hn : n ≤ 8) : seqStep s = .next u := by
  rw [seqStep, h]
  exact settle_of_settleFor ht hu hn

/-! ## The dummy block -/

/-- After a dummy exchange the block ends at 0, and otherwise one more exchange follows (R214). -/
theorem pointStep_dummyNext {s : State} {k : List Point} (h : s.seqpos = .dummyNext :: k) :
    pointStep s = .next { s with
      ndummy := s.ndummy - 1
      seqpos := if s.ndummy - 1 = 0 then k else fillerExchange :: .dummyNext :: k } := by
  rw [pointStep_point h rfl]
  simp only [runPoint, pointDummyNext]
  split <;> rfl

/-- One pass of the loop, after which `n` more follow: a filler exchange, and the count of it. NDUMMY counts down as NPOLL
does. -/
theorem pointRun_dummyPass {s : State} {k : List Point} {n : Nat} (h : s.seqpos = fillerExchange :: .dummyNext :: k)
    (hcount : s.ndummy = BitVec.ofNat 4 (n + 1)) (hn : n ≤ 9) :
    pointRun 2 s = .next { s with
      ndummy := BitVec.ofNat 4 n
      seqpos := if n = 0 then k else fillerExchange :: .dummyNext :: k
      ret := { s.ret with byte := s.env.cardByte }
      env := s.env.afterAnswer
      wire := .exch 0xFF s.env.cardByte :: s.wire } := by
  obtain ⟨hdown, hzero⟩ := npoll_countdown hn
  rw [pointRun_op h (exec_exchange _ _), pointRun_succ (pointStep_dummyNext rfl)]
  simp only [State.exchangeByte, hcount, hdown, hzero]
  rfl

/-- The loop with `n` passes after its next one. -/
theorem pointRun_dummyPasses (n : Nat) {s : State} {k : List Point} (h : s.seqpos = fillerExchange :: .dummyNext :: k)
    (hcount : s.ndummy = BitVec.ofNat 4 (n + 1)) (hn : n ≤ 9) :
    pointRun (2 * (n + 1)) s = .next { s with
      ndummy := 0
      seqpos := k
      ret := { s.ret with byte := (s.env.answers (n + 1)).getLastD 0 }
      env := s.env.afterAnswers (n + 1)
      wire := polled (s.env.answers (n + 1)) ++ s.wire } := by
  induction n generalizing s with
  | zero => exact pointRun_dummyPass h hcount hn
  | succ n ih =>
    let u : State := { s with
      ndummy := BitVec.ofNat 4 (n + 1)
      seqpos := fillerExchange :: .dummyNext :: k
      ret := { s.ret with byte := s.env.cardByte }
      env := s.env.afterAnswer
      wire := .exch 0xFF s.env.cardByte :: s.wire }
    have hpass : pointRun 2 s = .next u := pointRun_dummyPass h hcount hn
    have hpoints : 2 * (n + 1 + 1) = 2 + 2 * (n + 1) := by omega
    have hpasses := ih (s := u) rfl rfl (Nat.le_of_succ_le hn)
    have hlast : (s.env.answers (n + 2)).getLastD 0 = (s.env.afterAnswer.answers (n + 1)).getLastD 0 :=
      Environment.answers_getLastD s.env.afterAnswer (Nat.succ_ne_zero n) s.env.cardByte 0
    have hwire : polled (s.env.answers (n + 2)) =
        polled (s.env.afterAnswer.answers (n + 1)) ++ [.exch 0xFF s.env.cardByte] := polled_cons _ _
    rw [hpoints, pointRun_add hpass, hpasses, hlast, hwire, List.append_assoc]
    rfl

/-- Settles O39: the chip-select change, NDUMMY set to 10, and the ten passes. -/
theorem dummyBlockClocksTenBytes : Obligations.DummyBlockClocksTenBytes := by
  refine fun s => ⟨_, exec_initDummyBlock s, ?_⟩
  rw [pointRun_point rfl rfl rfl, pointRun_point rfl rfl rfl]
  exact pointRun_dummyPasses 9 rfl rfl (Nat.le_refl 9)

/-! ## The power-up wait -/

/-- Runs of the machine compose. -/
theorem core_run_add {m n : Nat} {s t : State} (h : Host.Core.run Sys2Proof.core m s = .next t) :
    Host.Core.run Sys2Proof.core (m + n) s = Host.Core.run Sys2Proof.core n t := by
  induction m generalizing s with
  | zero => cases h; rw [Nat.zero_add]
  | succ m ih =>
    cases hstep : step s with
    | next u =>
      rw [core_run_succ hstep] at h
      rw [Nat.succ_add, core_run_succ hstep]
      exact ih h
    | fault e =>
      have hcore : Sys2Proof.core.step s = .fault e := hstep
      simp [Host.Core.run, hcore] at h
    | refused e =>
      have hcore : Sys2Proof.core.step s = .refused e := hstep
      simp [Host.Core.run, hcore] at h

/-- A read of `Expired()` ends the wait when it was true, and another one follows when it was false (R213). -/
theorem pointStep_powerTest {s : State} {k : List Point} (h : s.seqpos = .powerTest :: k) :
    pointStep s = .next { s with seqpos := if s.ret.ok then k else .op .expired :: .powerTest :: k } := by
  rw [pointStep_point h rfl]
  simp only [runPoint, pointPowerTest]
  split <;> rfl

/-- After the power-up wait the first attempt begins (R215). -/
theorem pointStep_firstAttempt {s : State} {k : List Point} (h : s.seqpos = .firstAttempt :: k) :
    pointStep s = .next { s with
      attempt := 1
      seqpos := .op .initDummyBlock :: .op (.framer s.cfg.idxGoIdle s.cfg.goIdleArg false) :: .goIdleTest :: k } :=
  pointStep_point h rfl

/-- From the first attempt the control flow goes on to the chip-select change of its dummy block. -/
theorem settleFor_firstAttempt (n : Nat) {s : State} {k : List Point} (h : s.seqpos = .firstAttempt :: k) :
    settleFor (n + 2) s = .next { s with
      attempt := 1
      seqpos := .setCS false :: .dummyStart :: .op (.framer s.cfg.idxGoIdle s.cfg.goIdleArg false) :: .goIdleTest :: k } := by
  have hpass : s.settled = false := settled_eq_false.mpr ⟨_, k, h, rfl⟩
  rw [settleFor_succ hpass (pointStep_firstAttempt h), settleFor_succ rfl ((pointStep_op rfl).trans (exec_initDummyBlock _))]
  exact settleFor_settled rfl

/-- SEQ's step at INITIALIZE's read of `Expired()` while the timer runs: the wait goes on. -/
theorem seqStep_powerUp_waiting {s : State} {k : List Point} (h : s.seqpos = .op .expired :: .powerTest :: k)
    (ht : s.tcount ≠ 0) :
    seqStep s = .next { s with ret := { s.ret with ok := false }, wire := .expired false :: s.wire } := by
  refine seqStep_of_settled_after ((pointStep_op h).trans (exec_expired _)) rfl
    ((pointStep_powerTest rfl).trans ?_) (by simp [State.settled, h, Point.isPrimitive])
  simp [State.readExpired, ht, h]

/-- SEQ's step at INITIALIZE's read of `Expired()` once the timer is at 0: the wait ends, and the control flow goes on to the
chip-select change of the first dummy block. -/
theorem seqStep_powerUp_ended {s : State} {k : List Point} (h : s.seqpos = .op .expired :: .powerTest :: .firstAttempt :: k)
    (ht : s.tcount = 0) :
    seqStep s = .next { s with
      attempt := 1
      ret := { s.ret with ok := true }
      seqpos := .setCS false :: .dummyStart :: .op (.framer s.cfg.idxGoIdle s.cfg.goIdleArg false) :: .goIdleTest :: k
      wire := .expired true :: s.wire } := by
  let tested : State := { s with
    ret := { s.ret with ok := true }, seqpos := .powerTest :: .firstAttempt :: k, wire := .expired true :: s.wire }
  have hread : pointStep s = .next tested := by
    rw [pointStep_op h, exec_expired]
    simp [tested, State.readExpired, ht]
  have hended : pointStep tested = .next { tested with seqpos := .firstAttempt :: k } := pointStep_powerTest rfl
  exact seqStep_of_settleFor hread ((settleFor_succ rfl hended).trans (settleFor_firstAttempt 0 rfl)) rfl (by decide)

/-- Settles O38: the `Arm`, then `k` ticks, which leave the timer at T_POWERUP - `k`, then the read of `Expired()`. -/
theorem powerUpWaitCountsTicks : Obligations.PowerUpWaitCountsTicks := by
  refine ⟨exec_powerUpWait, fun _ _ => pointStep_powerTest, ?_⟩
  intro s a k hcfg hpos hinbox ha ended
  cases (exec_powerUpWait s).symm.trans ha
  obtain ⟨-, -, -, hfits, -⟩ := (config_wellFormed_iff s.cfg).mp hcfg
  let called := s.push [.op (.arm s.cfg.tPowerup), .op .expired, .powerTest]
  have hcall : called.seqpos = [.op (.arm s.cfg.tPowerup), .op .expired, .powerTest, .firstAttempt] := by
    simp [called, State.push, hpos]
  let armed := ((s.withInbox (List.replicate k .tick ++ [.seq])).startAt
    [.op .expired, .powerTest, .firstAttempt]).armTimer s.cfg.tPowerup
  let ticked : State := { armed.withInbox [.seq] with
    tcount := s.cfg.tPowerup - k, wire := List.replicate k .tick ++ armed.wire }
  have harm : step called = .next armed :=
    (step_inbox (s := called) hcfg hinbox).trans (seqStep_of_settled (s := called.withInbox _)
      (pointStep_arm hcall ((durationFits_iff ..).mp hfits)) rfl)
  have hticks : Host.Core.run Sys2Proof.core k armed = .next ticked := core_run_ticks k hcfg rfl
  rw [core_run_succ harm, core_run_add hticks]
  by_cases hend : s.cfg.tPowerup ≤ k
  · have hread := seqStep_powerUp_ended (s := ticked.withInbox []) rfl (Nat.sub_eq_zero_of_le hend)
    rw [core_run_succ ((step_inbox (s := ticked) hcfg rfl).trans hread)]
    simp only [ended, hend]
    rfl
  · have hread := seqStep_powerUp_waiting (s := ticked.withInbox []) rfl (Nat.sub_ne_zero_of_lt (Nat.lt_of_not_le hend))
    rw [core_run_succ ((step_inbox (s := ticked) hcfg rfl).trans hread)]
    simp only [ended, hend]
    rfl

/-! ## INITIALIZE and its attempts -/

/-- Settles O41: the issue goes up to the speed change, whose step goes on to the `Arm` of the power-up wait. -/
theorem initializeStarts : Obligations.InitializeStarts := by
  refine ⟨fun s hbusy => ?_, fun _ _ => pointStep_firstAttempt⟩
  let started : State := { s.issue with
    cardState := .uninitialized
    byteAddr := false
    seqpos := [.op (.setSpeed .slow), .op .powerUpWait, .firstAttempt] }
  have hclock : pointStep started = .next ({ started with seqpos := [.op .powerUpWait, .firstAttempt] }.driveSpeed .slow) :=
    (pointStep_op rfl).trans (exec_setSpeed _ _)
  have hwait : settleFor 1 ({ started with seqpos := [.op .powerUpWait, .firstAttempt] }.driveSpeed .slow) = .next _ :=
    settleFor_succ rfl ((pointStep_op rfl).trans (exec_powerUpWait _))
  rw [exec_hostInitialize, State.hostOp_idle _ hbusy]
  exact ⟨started, rfl, settle_settled rfl, seqRun_succ (seqStep_of_settleFor hclock hwait rfl (by decide))⟩

/-- The call of `release()` goes down to its two primitives (R132). -/
theorem settleFor_release (n : Nat) {s : State} {k : List Point} (h : s.seqpos = .op .release :: k) :
    settleFor (n + 2) s = .next { s with seqpos := .setCS false :: fillerExchange :: k } := by
  have hpass : s.settled = false := settled_eq_false.mpr ⟨_, k, h, rfl⟩
  rw [settleFor_succ hpass ((pointStep_op h).trans (exec_release _)),
    settleFor_succ rfl ((pointStep_op rfl).trans (exec_deselect _))]
  exact settleFor_settled rfl

theorem otherGoIdleTest_again {s : State} (h : s.attempt ≠ 255) :
    otherGoIdleTest s = .next ({ s with attempt := s.attempt + 1 }.push (attemptPoints s.cfg)) := by
  rw [otherGoIdleTest]
  exact congrArg _ (if_neg h)

theorem otherGoIdleTest_last {s : State} (h : s.attempt = 255) :
    otherGoIdleTest s = .next (s.failWith (initNoResponse s.ret.byte)) := by
  rw [otherGoIdleTest]
  exact congrArg _ (if_pos h)

/-- Settles O40: the three branches of the test, the last one with the deselection of `release()` and the completion. -/
theorem goIdleAttempts : Obligations.GoIdleAttempts := by
  intro s h
  refine ⟨fun hidle => ⟨exec_r1Idle_goIdleTest h, ?_⟩, fun hother hattempt => ?_, fun hother hattempt => ?_⟩
  · rw [pointRun_succ (pointStep_goIdleTest_idle h hidle), pointRun_op rfl (exec_complete _ _)]
    rfl
  · exact (pointStep_goIdleTest_other h hother).trans (otherGoIdleTest_again hattempt)
  · have hfail : pointStep s = .next ({ s with seqpos := [] }.failWith (initNoResponse s.ret.byte)) :=
      (pointStep_goIdleTest_other h hother).trans (otherGoIdleTest_last hattempt)
    rw [pointRun_succ hfail, pointRun_op rfl (exec_release _), pointRun_op rfl (exec_deselect _),
      pointRun_add (m := 2) (n := 1) (pointRun_setCS_filler rfl), pointRun_op rfl (exec_complete _ _)]
    rfl

/-! ## FINISH -/

/-- FINISH in Idle while BUSY = 0 (R248). -/
theorem exec_hostFinish_idle {s : State} (hbusy : s.busy = false) (hcard : s.cardState = .idle) :
    exec .hostFinish s = .next (if s.win.fin.getLsbD 0 then s.issue.startAt [.finishVerdict]
      else (s.issue.startAt []).failWith (negotiationFailed (s.win.fin.extractLsb' 8 8))) := by
  rw [exec_hostFinish, State.hostOp_idle _ hbusy, State.ifIdle]
  exact congrArg _ (if_pos hcard)

/-- The two primitives of `release()` as steps of SEQ, the last of which completes the operation. -/
theorem seqRun_release_complete {s : State} {res : Half}
    (h : s.seqpos = [.setCS false, fillerExchange, .op (.complete res)]) :
    seqRun 2 s = .next ((({ s with seqpos := [] }.driveCS false).exchangeByte 0xFF).completeWith res) := by
  let freed := { s with seqpos := [fillerExchange, .op (.complete res)] }.driveCS false
  have hline : seqStep s = .next freed := seqStep_of_settled (pointStep_point h rfl) rfl
  have hexchange : pointStep freed = .next ({ freed with seqpos := [.op (.complete res)] }.exchangeByte 0xFF) :=
    (pointStep_op rfl).trans (exec_exchange _ _)
  have hcomplete : pointStep ({ freed with seqpos := [.op (.complete res)] }.exchangeByte 0xFF) =
    .next (({ freed with seqpos := [] }.exchangeByte 0xFF).completeWith res) := (pointStep_op rfl).trans (exec_complete _ _)
  rw [seqRun_succ hline]
  exact seqRun_succ (seqStep_of_settled_after hexchange rfl hcomplete rfl)

/-- Settles O42: the test of LASTR1 makes the card Ready, the step of the clock goes on to `release()`, and that ends the
operation. -/
theorem finishMakesReady : Obligations.FinishMakesReady := by
  intro s hbusy hcard hok hr1
  let ready : State := { s.issue with
    byteAddr := s.win.fin.getLsbD 1
    cardState := .ready
    seqpos := [.op (.setSpeed .fast), .op .release, .op (.complete 0)] }
  have hverdict : pointStep (s.issue.startAt [.finishVerdict]) = .next ready := pointStep_finishVerdict_ready rfl hr1
  have hclock : pointStep ready = .next ({ ready with seqpos := [.op .release, .op (.complete 0)] }.driveSpeed .fast) :=
    (pointStep_op rfl).trans (exec_setSpeed _ _)
  rw [exec_hostFinish_idle hbusy hcard, if_pos hok]
  refine ⟨_, rfl, ready, settle_of_settleFor (n := 1) (settleFor_succ rfl hverdict) rfl (by decide), ?_⟩
  rw [seqRun_succ (seqStep_of_settleFor hclock (settleFor_release 0 rfl) rfl (by decide)), hbusy]
  exact seqRun_release_complete (res := 0) rfl

/-- Settles O43: with either code the control flow goes on to the chip-select change of `release()`, at once with OK = 0 and past
the test of LASTR1 with OK = 1. -/
theorem finishFails : Obligations.FinishFails := by
  intro s hbusy hcard hfails code
  let failed : State := { s.issue with
    cardState := .error code, seqpos := [.setCS false, fillerExchange, .op (.complete (negCode code))] }
  have hrelease : settleFor 2 ((s.issue.startAt []).failWith code) = .next failed := settleFor_release 0 rfl
  rw [exec_hostFinish_idle hbusy hcard]
  refine ⟨_, rfl, failed, ?_, ?_⟩
  · cases hok : s.win.fin.getLsbD 0 with
    | false =>
      have hcode : code = negotiationFailed (s.win.fin.extractLsb' 8 8) := by simp only [code, hok]; rfl
      rw [hcode] at hrelease
      exact settle_of_settleFor hrelease rfl (by decide)
    | true =>
      have hcode : code = readyRefused s.lastR1 := by simp only [code, hok]; rfl
      have hverdict : pointStep (s.issue.startAt [.finishVerdict]) = .next ((s.issue.startAt []).failWith code) := by
        rw [hcode]
        exact pointStep_finishVerdict_other rfl (hfails.resolve_left (by simp [hok]))
      exact settle_of_settleFor ((settleFor_succ rfl hverdict).trans hrelease) rfl (by decide)
  · rw [hbusy]
    exact seqRun_release_complete (s := failed) rfl

/-! ## R1_READY at its tests -/

/-- At a test SEQ runs the operation that the byte under test decodes to, if it is one (30_encoding.md R97). -/
theorem seqInstr?_eq_some_of_test {s : State} {p : Point} {k : List Point} {port : Port} {b : Byte} {i : Instr}
    (h : s.seqpos = p :: k) (hp : testAt p s = some (port, b)) :
    s.seqInstr? = some i ↔ decode s.cfg port [b] = .ok i := by
  simp only [State.seqInstr?, h]
  split
  case h_1 hnil => cases hnil
  case h_2 hop => cases hop; cases hp
  case h_3 hword => cases hword; cases hp
  case h_4 hcons =>
    cases hcons
    simp only [hp]
    cases decode s.cfg port [b] <;> simp

/-- At a test for 0x00 that byte alone is R1_READY (30_encoding.md R86). -/
theorem seqInstr?_readyTest {s : State} {p : Point} {k : List Point} {b : Byte} (h : s.seqpos = p :: k)
    (hp : testAt p s = some (.readyTest, b)) : b = 0x00 ↔ s.seqInstr? = some .r1Ready := by
  rw [seqInstr?_eq_some_of_test h hp]
  by_cases hb : b = 0x00#8 <;> simp [decode, decodeByte, hb]

/-- Settles O44: R1_READY at each of the three tests, and the byte that each of them reads. -/
theorem readyResponseGoesOn : Obligations.ReadyResponseGoesOn := fun _ _ =>
  ⟨fun h => ⟨exec_r1Ready_finish h, seqInstr?_readyTest h rfl⟩, fun h => ⟨exec_r1Ready_read h, seqInstr?_readyTest h rfl⟩,
    fun h => ⟨exec_r1Ready_write h, seqInstr?_readyTest h rfl⟩⟩

end Sys2Proof.Machine

/-! # The steps of SEQ that a run of points makes

A run of points that ends at IDLE or at a primitive is the control flow to the first primitive and then whole steps of SEQ, one
for each event it records (00_scope.md R6; 10_state.md R30). So what is proved of points holds of steps. -/

namespace Sys2Proof.Machine

/-- What SEQ needs so that its control flow always reaches a primitive. -/
structure State.Flows (s : State) : Prop where
  cfg : s.cfg.wellFormed = true
  pointsNative : s.PointsNative
  storeInRange : s.StoreInRange

theorem State.Flows.of_plain {s : State} (hcfg : s.cfg.wellFormed = true) (h : s.seqpos.all (Point.plain s.cfg) = true) :
    s.Flows := by
  obtain ⟨hnative, hstore⟩ := all_plain_iff.mp h
  exact ⟨hcfg, hnative, storeInRange_of_not_mem hstore⟩

/-- A primitive makes one event and leaves what SEQ needs. -/
theorem State.Flows.primitive {s : State} {p : Point} {k : List Point} (hs : s.Flows) (h : s.seqpos = p :: k)
    (hp : p.isPrimitive = true) : ∃ t, pointStep s = .next t ∧ t.Flows ∧ t.wire.length = s.wire.length + 1 := by
  obtain ⟨hcfg, hnative, hstore⟩ := hs
  have hall : ∀ q ∈ p :: k, q.native s.cfg = true := h ▸ hnative
  obtain ⟨e, t, ht, hwire, -, hseq, hc, hb⟩ := pointStep_primitive h (hall p (.head _)) hp
  exact ⟨t, ht, ⟨hc ▸ hcfg, fun q hq => hc ▸ hall q (.tail _ (hseq ▸ hq)), hstore.after_primitive h hp hseq hb⟩,
    by rw [hwire, List.length_cons]⟩

/-- Any other point makes no event, leaves what SEQ needs, and its control flow is the one of what follows. -/
theorem State.Flows.pass {s : State} {p : Point} {k : List Point} (hs : s.Flows) (h : s.seqpos = p :: k)
    (hp : p.isPrimitive = false) :
    ∃ t, pointStep s = .next t ∧ t.Flows ∧ t.wire = s.wire ∧ s.settle = t.settle := by
  obtain ⟨hcfg, hnative, hstore⟩ := hs
  obtain ⟨t, ht, hc, hwire, hn, hr, -⟩ := pointStep_passes hcfg hnative hstore h hp
  have hflows : t.Flows := ⟨hc ▸ hcfg, hn, hr⟩
  obtain ⟨u, hu, huset, -⟩ := settle_settles hcfg hnative hstore
  obtain ⟨v, hv, hvset, -⟩ := settle_settles hflows.cfg hn hr
  have hrest : settleFor (8 * s.seqpos.length + 7) t = .next u :=
    (settleFor_succ (settled_eq_false.mpr ⟨p, k, h, hp⟩) ht).symm.trans hu
  have hlong := settleFor_add (settleBound t) hrest huset
  rw [Nat.add_comm, settleFor_add _ hv hvset] at hlong
  exact ⟨t, ht, hflows, hwire, hu.trans (hlong.symm.trans hv.symm)⟩

/-- A run of points that ends settled is a control flow and as many steps of SEQ as it records events. -/
theorem State.Flows.seqRun_of_pointRun {m : Nat} {s v : State} (hs : s.Flows) (h : pointRun m s = .next v)
    (hv : v.settled = true) :
    ∃ u n, s.settle = .next u ∧ seqRun n u = .next v ∧ v.wire.length = s.wire.length + n := by
  induction m generalizing s with
  | zero =>
    cases h
    exact ⟨v, 0, settle_settled hv, rfl, rfl⟩
  | succ m ih =>
    cases hpos : s.seqpos with
    | nil => exact ih hs ((pointRun_succ (pointStep_idle hpos)).symm.trans h)
    | cons p k =>
      cases hp : p.isPrimitive with
      | true =>
        obtain ⟨t, ht, hflows, hwire⟩ := hs.primitive hpos hp
        obtain ⟨u, n, hu, hrun, hcount⟩ := ih hflows ((pointRun_succ ht).symm.trans h)
        have hstep : seqStep s = .next u := by rw [seqStep, ht]; exact hu
        exact ⟨s, n + 1, settle_settled (by simp [State.settled, hpos, hp]), (seqRun_succ hstep).trans hrun, by omega⟩
      | false =>
        obtain ⟨t, ht, hflows, hwire, hsettle⟩ := hs.pass hpos hp
        rw [hsettle, ← hwire]
        exact ih hflows ((pointRun_succ ht).symm.trans h)

end Sys2Proof.Machine

/-! # Host operations (45_host_operations.md)

A CTRL write while BUSY = 0 latches the operands and tests CARDSTATE (R240); with BUSY = 1 a host write sets OVR alone (R241).
The sector operations run `sector_arg`, `framer` and the transfer, and release the card before they complete (R243, R245,
R252). -/

namespace Sys2Proof.Machine

/-! ## Refusals within the CTRL write -/

/-- A raised error completes in the same step, since it has no primitive (60_exceptions.md R283). -/
theorem settle_raiseOpError (s : State) (code : Half) :
    (s.raiseOpError code).settle = .next (s.completeWith (-code)) := by
  have hcomplete : pointStep (s.raiseOpError code) = .next (s.completeWith (-code)) :=
    (pointStep_op (k := []) rfl).trans (exec_complete _ _)
  exact settle_of_settleFor (n := 1) (settleFor_succ rfl hcomplete) rfl (by decide)

/-- An issue that completes at once changes the latch and RESULT alone: BUSY = 1 is never seen (logs 20, 25). -/
theorem State.completeWith_issue {s : State} (res : Half) (h : s.busy = false) :
    s.issue.completeWith res = { s with lat := s.win.operands, seqpos := [], win := { s.win with result := res } } := by
  rw [h]
  rfl

/-- Settles O46: the issue raises BAD_OP. -/
theorem reservedOpsAreBadOp : Obligations.ReservedOpsAreBadOp := by
  intro s hbusy after
  have hrefused (op : Byte) : (s.refuseOp op).settle = .next (after (badOp op)) := by
    rw [State.refuseOp, State.hostOp_idle _ hbusy, settle_raiseOpError, State.completeWith_issue _ hbusy]
  exact ⟨⟨_, exec_hostReserved0 s, hrefused 0⟩, ⟨_, exec_hostReserved7 s, hrefused 7⟩⟩

/-- READ_SECTOR and WRITE_SECTOR outside Ready (R243, R245). -/
theorem State.hostOp_ifReady_refused {s : State} (ps : State → List Point) (hbusy : s.busy = false)
    (hcard : s.cardState ≠ .ready) :
    s.hostOp (fun t => t.ifReady (ps t)) = s.issue.raiseOpError (notReady s.cardState) := by
  rw [State.hostOp_idle _ hbusy]
  exact if_neg hcard

/-- SEND_COMMAND, EXCHANGE and FINISH outside Idle (R246 to R248). -/
theorem State.hostOp_ifIdle_refused {s : State} (body : State → State) (hbusy : s.busy = false)
    (hcard : s.cardState ≠ .idle) :
    s.hostOp (fun t => t.ifIdle body) = s.issue.raiseOpError (badState s.cardState) := by
  rw [State.hostOp_idle _ hbusy]
  exact if_neg hcard

/-- CARDSTATE as a detail byte has its code in bits 1:0. -/
theorem CardState.detail_eq (c : CardState) : c.detail = 0#6 ++ c.code := BitVec.setWidth_eq_append (by decide)

/-- Settles O47: the issue raises NOT_READY or BAD_STATE, each with CARDSTATE as its detail. -/
theorem wrongStateIsRefused : Obligations.WrongStateIsRefused := by
  intro s hbusy after
  have hnotReady : (s.issue.raiseOpError (notReady s.cardState)).settle = .next (after 0x07) := by
    rw [settle_raiseOpError, notReady, CardState.detail_eq, State.completeWith_issue _ hbusy]
    rfl
  have hbadState : (s.issue.raiseOpError (badState s.cardState)).settle = .next (after 0x0B) := by
    rw [settle_raiseOpError, badState, CardState.detail_eq, State.completeWith_issue _ hbusy]
    rfl
  constructor
  · intro hcard i hi
    refine ⟨_, ?_, hnotReady⟩
    obtain rfl | rfl : i = .hostReadSector ∨ i = .hostWriteSector := by simpa using hi
    · rw [exec_hostReadSector, State.hostOp_ifReady_refused _ hbusy hcard]
    · rw [exec_hostWriteSector, State.hostOp_ifReady_refused _ hbusy hcard]
  · intro hcard i hi
    refine ⟨_, ?_, hbadState⟩
    obtain rfl | rfl | rfl : i = .hostSendCommand ∨ i = .hostExchange ∨ i = .hostFinish := by simpa using hi
    · rw [exec_hostSendCommand, State.hostOp_ifIdle_refused _ hbusy hcard]
    · rw [exec_hostExchange, State.hostOp_ifIdle_refused _ hbusy hcard]
    · rw [exec_hostFinish, State.hostOp_ifIdle_refused _ hbusy hcard]

/-! ## The overrun (R241) -/

/-- Every CTRL value is an operation whose issue is refused while BUSY = 1. -/
theorem exec_decodeCtrl_busy {s : State} (v : Half) (h : s.busy = true) :
    exec (decodeCtrl v) s = .next { s with ovr := true } := by
  unfold decodeCtrl
  split
  all_goals exact congrArg _ (State.hostOp_busy _ h)

theorem State.writeOperand_busy {s : State} (w : Window) (h : s.busy = true) :
    s.writeOperand w = { s with ovr := true } := by
  simp [State.writeOperand, h]

theorem State.hostBufWrite_busy {s : State} (a : Nat) (b : Byte) (h : s.busy = true) :
    s.hostBufWrite a b = { s with ovr := true } := by
  simp [State.hostBufWrite, h]

/-- The offsets of the operand registers (10_state.md R36 to R39). -/
def operandOffsets : List Nat := [0x004, 0x006, 0x008, 0x00A, 0x00C, 0x00E, 0x010]

theorem State.regWrite_busy {s : State} {off : Nat} (v : Half) (hoff : off ∈ operandOffsets) (h : s.busy = true) :
    s.regWrite off v = { s with ovr := true } := by
  simp only [operandOffsets, List.mem_cons, List.not_mem_nil, or_false] at hoff
  obtain rfl | rfl | rfl | rfl | rfl | rfl | rfl := hoff
  all_goals exact State.writeOperand_busy _ h

/-- A host write inside the window and not at CTRL reaches a register or a byte of BUF. -/
theorem hostWrite_inside {s : State} {off : Nat} (v : Half) (hctrl : off ≠ 0) (hoff : off < 0x400) :
    hostWrite (s.cfg.base + off) v s = .next (if off < bufOffset then s.regWrite off v
      else s.hostBufWrite (off - bufOffset) (v.extractLsb' 0 8)) := by
  have hne : s.cfg.base + off ≠ s.cfg.base + ctrlOffset := by simp only [ctrlOffset]; omega
  rw [hostWrite, if_neg hne, hostWriteAt, windowOffset?_eq_some.mpr ⟨rfl, hoff⟩]

theorem hostWrite_ctrl (s : State) (v : Half) : hostWrite (s.cfg.base + 0x000) v s = exec (decodeCtrl v) s := by
  rw [hostWrite, ctrlOffset, if_pos rfl, decode_ctrl_bytes]

theorem hostWrite_busy {s : State} {off : Nat} (v : Half) (h : s.busy = true)
    (hoff : off ∈ 0x000 :: operandOffsets ∨ (0x200 ≤ off ∧ off < 0x400)) :
    hostWrite (s.cfg.base + off) v s = .next { s with ovr := true } := by
  obtain hreg | ⟨hlo, hhi⟩ := hoff
  · obtain rfl | hreg := List.mem_cons.mp hreg
    · rw [hostWrite_ctrl, exec_decodeCtrl_busy v h]
    · have hrange : ∀ a ∈ operandOffsets, a ≠ 0 ∧ a < bufOffset := by decide
      obtain ⟨hctrl, hlow⟩ := hrange off hreg
      rw [hostWrite_inside v hctrl (Nat.lt_trans hlow (by decide)), if_pos hlow, State.regWrite_busy v hreg h]
  · rw [hostWrite_inside v (by omega) hhi, bufOffset, if_neg (Nat.not_lt.mpr hlo), State.hostBufWrite_busy _ _ h]

/-- Settles O56: no control flow follows a host write while BUSY = 1, and each of them sets OVR alone. -/
theorem overrunSetsOvrOnly : Obligations.OverrunSetsOvrOnly := by
  intro s off v evs hcfg hbusy hoff hinbox
  have hstill : movesSeq (.hostWrite (s.cfg.base + off) v) (s.withInbox evs) = false :=
    Bool.eq_false_iff.mpr fun h => by
      obtain ⟨-, hidle⟩ := movesSeq_hostWrite.mp h
      exact absurd hidle (by simp [State.withInbox, hbusy])
  exact (step_inbox hcfg hinbox).trans ((runEvent_still hstill).trans (hostWrite_busy (s := s.withInbox evs) v hbusy hoff))

/-! ## The status read (R249) -/

/-- The fields of STATUS, from bit 15 down (10_state.md R35), are read back at their bits. -/
theorem status_fields (selto byteAddr speed csa ovr busy : Bool) (code : BitVec 2) :
    let st : Half := 0#8 ++ BitVec.ofBool selto ++ code ++ BitVec.ofBool byteAddr ++ BitVec.ofBool speed ++
      BitVec.ofBool csa ++ BitVec.ofBool ovr ++ BitVec.ofBool busy
    st.getLsbD 0 = busy ∧ st.getLsbD 1 = ovr ∧ st.getLsbD 2 = csa ∧ st.getLsbD 3 = speed ∧ st.getLsbD 4 = byteAddr ∧
      st.extractLsb' 5 2 = code ∧ st.getLsbD 7 = selto ∧ st.extractLsb' 8 8 = 0 := by
  revert selto byteAddr speed csa ovr busy code
  decide

/-- Settles O54: STATUS is what a host read of its register returns, field by field. -/
theorem statusReadShowsTheState : Obligations.StatusReadShowsTheState := by
  intro s
  have hspeed : decide (s.speed = .fast) = speedBit s.speed := by cases s.speed <;> rfl
  rw [hspeed]
  exact ⟨s.statusWord, exec_statusRead s, rfl, status_fields ..⟩

/-! ## The sector argument (R244) -/

/-- `sector_arg` of a sector in range. -/
theorem pointStep_sectorArg {s : State} {sector : Long} {k : List Point} (h : s.seqpos = .op (.sectorArg sector) :: k)
    (hrange : s.byteAddr = true → sector.toNat < sectorLimit s.cfg) :
    pointStep s = .next { s with
      seqpos := k, ret := { s.ret with arg := if s.byteAddr then byteArg s.cfg sector else sector } } := by
  rw [pointStep_op h]
  by_cases hmode : s.byteAddr = true
  · rw [if_pos hmode]
    exact exec_sectorArg_byte hmode (hrange hmode)
  · rw [if_neg hmode]
    exact exec_sectorArg_block sector (Bool.eq_false_iff.mpr hmode)

/-- At BYTE_SCALE 512 byte addressing has 2^23 sectors, and below that the product does not wrap. -/
theorem byteArg_toNat {c : Config} {sector : Long} (hscale : c.byteShift = 9) (h : sector.toNat < 2 ^ 23) :
    (byteArg c sector).toNat = sector.toNat * 512 := by
  rw [byteArg, hscale, BitVec.toNat_shiftLeft, Nat.shiftLeft_eq]
  exact Nat.mod_eq_of_lt (by omega)

/-- Settles O48: the three branches of `sector_arg`, the last one with its completion. -/
theorem sectorArgument : Obligations.SectorArgument := by
  intro s sector hscale
  have hlimit : sectorLimit s.cfg = 2 ^ 23 := by rw [sectorLimit, hscale]
  refine ⟨exec_sectorArg_block sector, fun hmode hlow => ?_, fun hmode hhigh => ?_⟩
  · exact ⟨_, byteArg_toNat hscale hlow, exec_sectorArg_byte hmode (hlimit ▸ hlow)⟩
  · exact ⟨_, exec_sectorArg_range hmode (hlimit ▸ hhigh), pointRun_op rfl (exec_complete _ _)⟩

/-! ## The operations of the negotiator (R246, R247) -/

/-- SEND_COMMAND, EXCHANGE and FINISH in Idle. -/
theorem State.hostOp_ifIdle {s : State} (body : State → State) (hbusy : s.busy = false) (hcard : s.cardState = .idle) :
    s.hostOp (fun t => t.ifIdle body) = body s.issue := by
  rw [State.hostOp_idle _ hbusy]
  exact if_pos hcard

/-- RESP takes the byte returned, and the operation completes with 0 (R246, R247). -/
theorem pointStep_respond {s : State} {k : List Point} (h : s.seqpos = .respond :: k) :
    pointStep s = .next { s with
      win := { s.win with resp := 0#8 ++ s.ret.byte }, seqpos := .op (.complete 0) :: k } := by
  have hresp : s.ret.byte.setWidth 16 = 0#8 ++ s.ret.byte := BitVec.setWidth_eq_append (by decide)
  rw [pointStep_point h rfl, ← hresp]
  rfl

/-- Settles O53: the exchange's step goes on through RESP to the completion, and SEND_COMMAND ends at the same point. -/
theorem negotiatorOperations : Obligations.NegotiatorOperations := by
  refine ⟨fun s hbusy hcard => ?_, fun s hbusy hcard => ?_, fun s hpos => ?_⟩
  · let received := (s.issue.startAt [.respond]).exchangeByte s.win.operands.out
    have hexchange : pointStep (s.issue.startAt [.op (.exchange s.win.operands.out), .respond]) = .next received :=
      (pointStep_op rfl).trans (exec_exchange _ _)
    have hend : settleFor 2 received = .next _ := (settleFor_succ rfl (pointStep_respond rfl)).trans
      (settleFor_succ rfl ((pointStep_op rfl).trans (exec_complete _ _)))
    rw [exec_hostExchange, State.hostOp_ifIdle _ hbusy hcard, hbusy]
    exact ⟨_, rfl, settle_settled rfl, seqRun_succ (seqStep_of_settleFor hexchange hend rfl (by decide))⟩
  · rw [exec_hostSendCommand, State.hostOp_ifIdle _ hbusy hcard]
    rfl
  · rw [pointRun_succ (pointStep_respond hpos), pointRun_op rfl (exec_complete _ _)]
    rfl

/-! ## The start of a sector operation (R240, R243, R245) -/

/-- READ_SECTOR and WRITE_SECTOR in Ready. -/
theorem State.hostOp_ifReady {s : State} (ps : State → List Point) (hbusy : s.busy = false) (hcard : s.cardState = .ready) :
    s.hostOp (fun t => t.ifReady (ps t)) = s.issue.startAt (ps s.issue) := by
  rw [State.hostOp_idle _ hbusy]
  exact if_pos hcard

/-- WRITE_SECTOR or READ_SECTOR: up to the transfer they differ in their points and their index alone. -/
def sectorOp (write : Bool) : Instr := if write then .hostWriteSector else .hostReadSector

/-- The point after `sector_arg`. -/
def sectorCall (write : Bool) : Point := if write then .writeArg else .readArg

/-- The test of the response. -/
def sectorTest (write : Bool) : Point := if write then .writeCommand else .readCommand

/-- The index of the command. -/
def sectorIndex (c : Config) (write : Bool) : Index := if write then c.idxWriteSingle else c.idxReadSingle

/-- The sector that the operand registers name (10_state.md R36). -/
def State.sector (s : State) : Long := s.win.sectorHi ++ s.win.sectorLo

/-- What `sector_arg` returns of it when it is in range (R244). -/
def State.sectorArg (s : State) : Long := if s.byteAddr then byteArg s.cfg s.sector else s.sector

/-- A sector operation right after its issue in Ready. -/
def State.sectorIssued (s : State) (write : Bool) : State := s.issue.startAt [.op (.sectorArg s.sector), sectorCall write]

/-- A sector operation at its call of `framer`. -/
def State.sectorCalled (s : State) (write : Bool) : State :=
  { s.issue with
    ret := { s.ret with arg := s.sectorArg }
    seqpos := [.op (.framer (sectorIndex s.cfg write) s.sectorArg false), sectorTest write] }

theorem exec_sectorOp {s : State} (write : Bool) (hbusy : s.busy = false) (hcard : s.cardState = .ready) :
    exec (sectorOp write) s = .next (s.sectorIssued write) := by
  cases write with
  | false => exact (exec_hostReadSector s).trans (congrArg _ (State.hostOp_ifReady _ hbusy hcard))
  | true => exact (exec_hostWriteSector s).trans (congrArg _ (State.hostOp_ifReady _ hbusy hcard))

theorem pointRun_sectorIssued {s : State} (write : Bool) (hrange : s.byteAddr = true → s.sector.toNat < sectorLimit s.cfg) :
    pointRun 2 (s.sectorIssued write) = .next (s.sectorCalled write) := by
  rw [pointRun_succ (pointStep_sectorArg (s := s.sectorIssued write) rfl hrange)]
  cases write with
  | false => exact pointRun_point rfl rfl rfl
  | true => exact pointRun_point rfl rfl rfl

/-- Settles O60: `sector_arg` of the latched sector, and the call of `framer` with its result. -/
theorem sectorOperationsStart : Obligations.SectorOperationsStart := by
  intro s hbusy hcard hrange sector arg after
  exact ⟨⟨_, exec_sectorOp false hbusy hcard, pointRun_sectorIssued false hrange⟩,
    ⟨_, exec_sectorOp true hbusy hcard, pointRun_sectorIssued true hrange⟩⟩

/-! ## The end of a sector operation (R243, R245, R252, R253) -/

/-- `release()` is one chip-select change and one filler exchange (41_card_selector.md R132). -/
theorem pointRun_release {s : State} {k : List Point} (h : s.seqpos = .op .release :: k) :
    pointRun 4 s = .next (({ s with seqpos := k }.driveCS false).exchangeByte 0xFF) := by
  rw [pointRun_op h (exec_release _), pointRun_op rfl (exec_deselect _)]
  exact pointRun_setCS_filler rfl

/-- A response other than 0x00 to the read or the write command (R243, R245). -/
theorem pointStep_refused {s : State} (h : s.seqpos = [.readCommand] ∨ s.seqpos = [.writeCommand]) (hb : s.ret.byte ≠ 0x00) :
    pointStep s = .next ({ s with seqpos := [] }.refuseResponse) :=
  h.elim (pointStep_readCommand_other · hb) (pointStep_writeCommand_other · hb)

/-- Settles O51: `release()`, then `classify` of the response that was refused, and its code raised. -/
theorem refusedResponseIsClassified : Obligations.RefusedResponseIsClassified := by
  refine fun s r => ⟨exec_classify r s, fun hpos hr hrefused => ?_⟩
  subst hr
  rw [pointRun_succ (pointStep_refused hpos hrefused), pointRun_add (n := 3) (pointRun_release rfl),
    pointRun_op rfl (exec_classify _ _), pointRun_point rfl rfl rfl, pointRun_op rfl (exec_complete _ _)]
  rfl

/-- READ_SECTOR after `release()` completes with the result of `receive_block` (R243). -/
theorem pointStep_readDone {s : State} {ok : Bool} {tok : Byte} (h : s.seqpos = [.readDone ok tok]) :
    pointStep s = .next (s.startAt [.op (.complete (-(if ok then 0 else dataTimeout tok)))]) := by
  rw [pointStep_point h rfl]
  cases ok with
  | true => rw [if_pos rfl, neg_zero]; rfl
  | false => rfl

/-- WRITE_SECTOR after `release()` completes with the result of `send_block` (R245). -/
theorem pointStep_writeDone {s : State} {ok : Bool} {resp : Byte} (h : s.seqpos = [.writeDone ok resp]) :
    pointStep s = .next (s.startAt [.op (.complete
      (-(if ok then 0 else if s.selto then readyWaitTimeout else writeReject resp)))]) := by
  rw [pointStep_point h rfl]
  cases ok with
  | true => rw [if_pos rfl, neg_zero]; rfl
  | false =>
    simp only [runPoint, pointWriteDone, Bool.false_eq_true, if_false]
    split <;> rfl

/-- Settles O52: `release()`, and the completion with the code of what the transfer returned. -/
theorem transferResultIsReported : Obligations.TransferResultIsReported := by
  intro s write hpos code
  cases write with
  | false =>
    rw [pointRun_succ (pointStep_point hpos rfl), pointRun_add (n := 2) (pointRun_release rfl),
      pointRun_succ (pointStep_readDone rfl), pointRun_op rfl (exec_complete _ _)]
    rfl
  | true =>
    rw [pointRun_succ (pointStep_point hpos rfl), pointRun_add (n := 2) (pointRun_release rfl),
      pointRun_succ (pointStep_writeDone rfl), pointRun_op rfl (exec_complete _ _)]
    rfl

end Sys2Proof.Machine

/-! # READ_SECTOR and WRITE_SECTOR from their issue to their completion (45_host_operations.md R243, R245)

The points of an operation, from `sector_arg` to the completion, are one run: the command that both have in common, and then
the transfer with the release of the card. It ends settled, so it is the control flow of the CTRL write and one step of SEQ for
each event recorded. -/

namespace Sys2Proof.Machine

/-! ## The card's later answers -/

theorem Environment.drop_answers (m i j : Nat) (e : Environment) :
    ((e.afterAnswers m).answers j).drop i = (e.answers (m + j)).drop (m + i) := by
  rw [← Environment.answers_drop, List.drop_drop]

/-- The last of the next answers, the byte that the exchange after the others brings. -/
theorem Environment.answers_succ_getLastD (n : Nat) (e : Environment) (a : Byte) :
    (e.answers (n + 1)).getLastD a = (e.afterAnswers n).cardByte := by
  rw [Environment.answers_add]
  exact List.getLastD_concat

theorem Environment.afterAnswers_succ (n : Nat) (e : Environment) :
    (e.afterAnswers n).afterAnswer = e.afterAnswers (n + 1) := (e.afterAnswers_add n 1).symm

/-- The last answers are the same however many came before them. -/
theorem Environment.getLastD_answers (m : Nat) {n : Nat} (hn : n ≠ 0) (e : Environment) :
    ((e.afterAnswers m).answers n).getLastD 0 = (e.answers (m + n)).getLastD 0 := by
  obtain ⟨n, rfl⟩ := Nat.exists_eq_add_one_of_ne_zero hn
  rw [Environment.answers_succ_getLastD, ← Nat.add_assoc, Environment.answers_succ_getLastD, Environment.afterAnswers_add]

/-! ## The command -/

/-- A card that becomes ready after the bytes `busy` and answers a command with 0x00 after the bytes `bad`: what it sends from the
deselection on, with `x`, `y` and `f` of any value, and what the selection's timer needs. -/
structure CommandAccepted (c : Config) (e : Environment) (x y : Byte) (busy f bad : List Byte) : Prop where
  timerFits : c.tSelect ≤ c.maxDuration
  timerRuns : busy = [] ∨ 0 < c.tSelect
  staysBusy : ∀ b ∈ busy, b ≠ 0xFF
  frameLength : f.length = 6
  badMarked : ∀ b ∈ bad, b.getLsbD 7 = true
  fewBad : bad.length ≤ 9
  answers : e.answers (10 + busy.length + bad.length) = x :: y :: busy ++ 0xFF :: f ++ bad ++ [0x00]

/-- The answers to come, cut after the response 0x00. -/
theorem CommandAccepted.of_answers {c : Config} {e : Environment} {x y : Byte} {busy f bad rest : List Byte} {j n : Nat}
    (hcfg : c.wellFormed = true) (htimer : busy = [] ∨ 0 < c.tSelect) (hbusy : ∀ b ∈ busy, b ≠ 0xFF) (hf : f.length = 6)
    (hbad : ∀ b ∈ bad, b.getLsbD 7 = true) (hfew : bad.length ≤ 9)
    (hcard : e.answers n = x :: y :: busy ++ 0xFF :: f ++ bad ++ 0x00 :: rest) (hn : n = 10 + busy.length + bad.length + j) :
    CommandAccepted c e x y busy f bad ∧ (e.afterAnswers (10 + busy.length + bad.length)).answers j = rest := by
  obtain ⟨hfits, -, -, -, -⟩ := (config_wellFormed_iff c).mp hcfg
  have hcut : x :: y :: busy ++ 0xFF :: f ++ bad ++ 0x00 :: rest =
      (x :: y :: busy ++ 0xFF :: f ++ bad ++ [0x00]) ++ rest := by simp
  rw [hcut, hn] at hcard
  obtain ⟨hcommand, hlater⟩ := Environment.answers_eq_append hcard (by simp [hf]; omega)
  exact ⟨⟨(durationFits_iff ..).mp hfits, htimer, hbusy, hf, hbad, hfew, hcommand⟩, hlater⟩

/-- The events of such a command, the latest first (42_command_framer.md R150 to R155). -/
def commandWire (c : Config) (idx : Index) (arg : Long) (x y : Byte) (busy f bad : List Byte) : List BusEvent :=
  polled (bad ++ [0x00]) ++ exchanged (frameBytes c idx arg) f ++ .exch 0xFF 0xFF :: timedPolls busy ++
    [.arm c.tSelect, .exch 0xFF y, .sel, .exch 0xFF x, .desel]

/-- The state after such a command, the card selected and SEQPOS at `k`. -/
def State.commanded (s : State) (idx : Index) (arg : Long) (x y : Byte) (busy f bad : List Byte) (k : List Point) : State :=
  { s with
    selto := false
    csa := true
    tcount := s.cfg.tSelect
    lastR1 := 0x00
    npoll := BitVec.ofNat 4 (9 - bad.length)
    seqpos := k
    ret := { s.ret with byte := 0x00, ok := true }
    env := s.env.afterAnswers (10 + busy.length + bad.length)
    wire := commandWire s.cfg idx arg x y busy f bad ++ s.wire }

/-- `framer` of a standard command: `send_command` as in O27, and LASTR1 (42_command_framer.md R156). -/
theorem pointRun_framer {s : State} {idx : Index} {arg : Long} {x y : Byte} {busy f bad : List Byte} {k : List Point}
    (h : s.seqpos = .op (.framer idx arg false) :: k) (hidx : idx ≠ s.cfg.idxStop)
    (hcard : CommandAccepted s.cfg s.env x y busy f bad) :
    pointRun (26 + 4 * busy.length + 2 * bad.length) s = .next (s.commanded idx arg x y busy f bad k) := by
  obtain ⟨hfits, hruns, hbusy, hf, hbad, hfew, hanswers⟩ := hcard
  obtain ⟨t, ht, hsend⟩ := sendCommandStandard { s with seqpos := .latchR1 :: k } idx arg x y busy f bad 0x00 hidx hfits hruns
    hbusy hf hbad hfew (.inl rfl) hanswers
  have hcount : 26 + 4 * busy.length + 2 * bad.length = 2 + (23 + 4 * busy.length + 2 * bad.length + 1) := by omega
  have hopen : pointRun 2 s = .next t := (pointRun_op h (exec_framer _ _ _ _)).trans (pointRun_op rfl ht)
  rw [hcount, pointRun_add hopen, pointRun_add hsend, pointRun_point rfl rfl rfl]
  simp [State.commanded, commandWire]

/-! ## The transfers -/

/-- READ_SECTOR after a command answered with 0x00: the block of O32, `release()`, and the completion with 0. -/
theorem pointRun_readTransfer {s : State} {k : Nat} (h : s.seqpos = [.readCommand]) (hready : s.ret.byte = 0x00)
    (ht : s.cfg.tRead ≤ s.cfg.maxDuration) (htimer : k = 0 ∨ 0 < s.cfg.tRead)
    (hcard : s.env.answers (k + 1) = List.replicate k 0xFF ++ [0xFE]) :
    pointRun (1552 + 4 * k) s = .next { s with
      tcount := s.cfg.tRead
      csa := false
      bidx := 512
      seqpos := []
      busy := false
      ret := { s.ret with byte := (s.env.answers (k + 516)).getLastD 0, ok := true }
      win := { s.win with result := 0 }
      buf := s.buf.putBytes 0 (((s.env.answers (k + 515)).drop (k + 1)).take 512)
      env := s.env.afterAnswers (k + 516)
      wire := .exch 0xFF ((s.env.answers (k + 516)).getLastD 0) :: .desel ::
        polled ((s.env.answers (k + 515)).drop k) ++ timedPolls (List.replicate k 0xFF) ++ .arm s.cfg.tRead :: s.wire } := by
  have hcount : 1552 + 4 * k = 2 + (1543 + 4 * k + 7) := by omega
  let called : State := { s with seqpos := [.op (.arm s.cfg.tRead), fillerExchange, .tokenPoll, .readReceived] }
  have hopen : pointRun 2 s = .next called :=
    (pointRun_succ (pointStep_readCommand_ready h hready)).trans (pointRun_op rfl (exec_receiveBlock _ _))
  rw [hcount, pointRun_add hopen, pointRun_add (pointRun_receiveBlock (s := called) rfl ht htimer hcard),
    Environment.answers_succ_getLastD]
  refine (transferResultIsReported _ false rfl).trans ?_
  simp [called, Environment.afterAnswers_succ]

/-- WRITE_SECTOR after a command answered with 0x00: the block of O34, `release()`, and the completion with the verdict on the
data response. -/
theorem pointRun_writeTransfer {s : State} {slow : List Byte} {resp : Byte} (h : s.seqpos = [.writeCommand])
    (hready : s.ret.byte = 0x00) (hselto : s.selto = false) (hfits : 500 ≤ s.cfg.maxDuration)
    (htoken : s.cfg.dataTokenWrite ≠ s.cfg.stopToken)
    (hslow : ∀ b ∈ slow, b ≠ 0xFF) (hcard : s.env.answers (slow.length + 1) = slow ++ [0xFF])
    (hresp : resp = (s.env.answers (slow.length + 517)).getLastD 0) :
    pointRun (1558 + 4 * slow.length) s = .next { s with
      tcount := 500
      csa := false
      bidx := 512
      seqpos := []
      busy := false
      ret := { s.ret with
        byte := (s.env.answers (slow.length + 518)).getLastD 0, ok := decide (resp &&& 0x1F = 0x05) }
      win := { s.win with result := if resp &&& 0x1F = 0x05 then 0 else -(0x06#8 ++ resp) }
      env := s.env.afterAnswers (slow.length + 518)
      wire := .exch 0xFF ((s.env.answers (slow.length + 518)).getLastD 0) :: .desel ::
        exchanged (s.cfg.dataTokenWrite :: s.bufBytes ++ [0xFF, 0xFF, 0xFF])
          ((s.env.answers (slow.length + 517)).drop (slow.length + 1)) ++
        .exch 0xFF 0xFF :: timedPolls slow ++ .arm 500 :: s.wire } := by
  let called : State := { s with seqpos := [.writeSent] }
  obtain ⟨t, ht, hsend⟩ := sendBlockSendsBuf called s.cfg.dataTokenWrite slow hfits hslow htoken hcard
  have hbuf : called.bufBytes = s.bufBytes := State.bufBytes_congr rfl
  have hlast : ((called.env.answers (slow.length + 517)).drop (slow.length + 1)).getLastD 0 = resp := by
    rw [called.env.answers_drop (slow.length + 1) 516, Environment.getLastD_answers _ (by decide), hresp, Nat.add_assoc]
  have hresult : -(if decide (resp &&& 0x1F = 0x05) then (0 : Half) else if s.selto then 0x0201 else 0x06#8 ++ resp) =
      if resp &&& 0x1F = 0x05 then 0 else -(0x06#8 ++ resp) := by
    simp only [decide_eq_true_eq, hselto, Bool.false_eq_true, if_false]
    split
    · exact neg_zero
    · rfl
  have hcount : 1558 + 4 * slow.length = 2 + (1549 + 4 * slow.length + 7) := by omega
  have hopen : pointRun 2 s = .next t :=
    (pointRun_succ (pointStep_writeCommand_ready h hready)).trans (pointRun_op rfl ht)
  rw [hbuf, hlast, if_pos rfl] at hsend
  rw [hcount, pointRun_add hopen, pointRun_add hsend, Environment.answers_succ_getLastD, ← hresult]
  refine (transferResultIsReported _ true rfl).trans ?_
  simp [called, Environment.afterAnswers_succ]

/-! ## From the issue to the completion -/

theorem polled_length (bs : List Byte) : (polled bs).length = bs.length := by simp [polled]

theorem timedPolls_length (bs : List Byte) : (timedPolls bs).length = 2 * bs.length := by
  simp [timedPolls, Nat.mul_comm]

theorem exchanged_length {out inp : List Byte} (h : out.length = inp.length) : (exchanged out inp).length = inp.length := by
  simp [exchanged, h]

theorem commandWire_length {c : Config} {idx : Index} {arg : Long} {x y : Byte} {busy f bad : List Byte}
    (hf : f.length = 6) : (commandWire c idx arg x y busy f bad).length = 13 + 2 * busy.length + bad.length := by
  have hframe : (exchanged (frameBytes c idx arg) f).length = 6 :=
    (exchanged_length ((frameBytes_length c idx arg).trans hf.symm)).trans hf
  simp only [commandWire, List.length_append, List.length_cons, List.length_nil, polled_length, timedPolls_length, hframe]
  omega

/-- A sector operation whose command is answered with 0x00, given the run of its transfer: it makes a step of SEQ for each of the
`n` events recorded. -/
theorem seqRun_sectorOp {s v : State} {write : Bool} {x y : Byte} {busy f bad : List Byte} {m n : Nat}
    (hcfg : s.cfg.wellFormed = true) (hrange : s.byteAddr = true → s.sector.toNat < sectorLimit s.cfg)
    (hidx : sectorIndex s.cfg write ≠ s.cfg.idxStop) (hcard : CommandAccepted s.cfg s.env x y busy f bad)
    (htransfer : pointRun m ((s.sectorCalled write).commanded (sectorIndex s.cfg write) s.sectorArg x y busy f bad
      [sectorTest write]) = .next v)
    (hset : v.settled = true) (hevents : v.wire.length = s.wire.length + n) :
    ∃ u, (s.sectorIssued write).settle = .next u ∧ seqRun n u = .next v := by
  have hcommand := pointRun_framer (s := s.sectorCalled write) rfl hidx hcard
  have hrun := (pointRun_add (pointRun_sectorIssued write hrange)).trans ((pointRun_add hcommand).trans htransfer)
  have hflows : (s.sectorIssued write).Flows := .of_plain hcfg (by cases write <;> rfl)
  obtain ⟨u, steps, hu, hsteps, hcount⟩ := hflows.seqRun_of_pointRun hrun hset
  obtain rfl : steps = n := Nat.add_left_cancel (hcount.symm.trans hevents)
  exact ⟨u, hu, hsteps⟩

/-- Settles O49: the command of O27 and the transfer of O32, and the number of their events. -/
theorem readSectorDelivers : Obligations.ReadSectorDelivers := by
  intro s x y busy f bad k sector arg n hcfg htimer hread hidx hbusy hready hrange hb hf hbad hfew hanswers
  obtain ⟨-, hreadFits, -, -, -⟩ := (config_wellFormed_iff s.cfg).mp hcfg
  let m := 10 + busy.length + bad.length
  have hn : n = m + (k + 1) := by simp only [n, m]; omega
  obtain ⟨hcard, htoken⟩ := CommandAccepted.of_answers hcfg htimer hb hf hbad hfew
    (hanswers.trans (List.append_assoc ..)) hn
  let called := (s.sectorCalled false).commanded s.cfg.idxReadSingle arg x y busy f bad [.readCommand]
  have htransfer := pointRun_readTransfer (s := called) rfl rfl ((durationFits_iff ..).mp hreadFits) hread htoken
  have henv : called.env = s.env.afterAnswers m := rfl
  have hend : n + 515 = m + (k + 516) := by omega
  have hblock : n + 514 = m + (k + 515) := by omega
  have htokenAt : n - 1 = m + k := by omega
  have hpayload : ((called.env.answers (k + 515)).drop (k + 1)).take 512 = (s.env.answers (n + 512)).drop n := by
    rw [Environment.answers_payload, henv, ← Environment.afterAnswers_add, hn, Environment.answers_drop]
  rw [hpayload, henv, Environment.drop_answers, Environment.getLastD_answers _ (Nat.succ_ne_zero _),
    ← Environment.afterAnswers_add, ← hend, ← hblock, ← htokenAt] at htransfer
  obtain ⟨u, hu, hsteps⟩ := seqRun_sectorOp (write := false) (n := 531 + 2 * busy.length + bad.length + 2 * k) hcfg hrange
    hidx hcard htransfer rfl (by
      simp only [called, State.commanded, State.sectorCalled, State.issue_wire, List.length_append, List.length_cons,
        List.length_drop, List.length_replicate, Environment.answers_length, polled_length, timedPolls_length,
        commandWire_length hf]
      omega)
  have hlen : ((s.env.answers (n + 512)).drop n).length = 512 := by simp
  refine ⟨_, exec_sectorOp false hbusy hready, u, hu, _, hsteps, ?_, State.bufBytes_of_putBytes rfl hlen, fun a ha => ?_⟩
  · have harg : s.sectorArg = arg := rfl
    rw [hbusy]
    simp [called, State.commanded, State.sectorCalled, commandWire, harg]
  · exact State.bufRead_of_putBytes (s := s) rfl (Nat.le_trans (Nat.le_of_eq hlen) ha)

/-- Settles O50: the command of O27 and the transfer of O34, and the number of their events. -/
theorem writeSectorSendsOrRejects : Obligations.WriteSectorSendsOrRejects := by
  intro s x y busy f bad slow sector arg n resp hcfg htimer hidx htoken hbusy hready hrange hb hslow hf hbad hfew hanswers
  obtain ⟨-, -, hwriteFits, -, -⟩ := (config_wellFormed_iff s.cfg).mp hcfg
  let m := 10 + busy.length + bad.length
  have hn : n = m + (slow.length + 1) := by simp only [n, m]; omega
  obtain ⟨hcard, hwait⟩ := CommandAccepted.of_answers hcfg htimer hb hf hbad hfew
    (hanswers.trans (List.append_assoc ..)) hn
  let called := (s.sectorCalled true).commanded s.cfg.idxWriteSingle arg x y busy f bad [.writeCommand]
  have henv : called.env = s.env.afterAnswers m := rfl
  have hblock : n + 516 = m + (slow.length + 517) := by omega
  have hend : n + 517 = m + (slow.length + 518) := by omega
  have hresp : resp = (called.env.answers (slow.length + 517)).getLastD 0 := by
    rw [henv, Environment.getLastD_answers _ (Nat.succ_ne_zero _), ← hblock]
  have hbuf : called.bufBytes = s.bufBytes := State.bufBytes_congr rfl
  have htransfer := pointRun_writeTransfer (s := called) rfl rfl rfl ((durationFits_iff ..).mp hwriteFits) htoken hslow hwait
    hresp
  rw [hbuf, henv, Environment.drop_answers, Environment.getLastD_answers _ (Nat.succ_ne_zero _),
    ← Environment.afterAnswers_add, ← hend, ← hblock, ← hn] at htransfer
  have hreceived : ((s.env.answers (n + 516)).drop n).length = 516 := by simp
  have hsent := exchanged_length ((blockBytes_length s.cfg.dataTokenWrite s.bufBytes_length).trans hreceived.symm)
  rw [hreceived, blockBytes] at hsent
  obtain ⟨u, hu, hsteps⟩ := seqRun_sectorOp (write := true)
    (n := 533 + 2 * busy.length + bad.length + 2 * slow.length) hcfg hrange hidx hcard htransfer rfl (by
      simp only [called, State.commanded, State.sectorCalled, State.issue_wire, State.issue_cfg, List.length_append,
        List.length_cons, hsent, timedPolls_length, commandWire_length hf]
      omega)
  refine ⟨_, exec_sectorOp true hbusy hready, u, hu, hsteps.trans ?_⟩
  have harg : s.sectorArg = arg := rfl
  rw [hbusy]
  simp [called, State.commanded, State.sectorCalled, commandWire, harg]

end Sys2Proof.Machine

/-! # The block raises no trap (60_exceptions.md)

A step of SEQ settles, a host access inside the window answers, and the control flow of a CTRL write starts at the points of an
operation of the host or at a raised error, so that it settles too (R280). An error has one effect, the completion with its
negated code (R282, R283). -/

namespace Sys2Proof.Machine

/-! ## Completion and errors (R282, R283) -/

/-- Settles O59: a raised error leaves one point, the completion with `-code`, which is 2 ^ 16 - code in 16 bits. -/
theorem completeAndRaise : Obligations.CompleteAndRaise :=
  fun s => ⟨fun res => exec_complete res s, fun code => pointRun_op (n := 0) rfl (exec_complete (-code) _)⟩

/-! ## What a CTRL write starts (45_host_operations.md R240) -/

theorem State.startAt_flows {s : State} {ps : List Point} (hcfg : s.cfg.wellFormed = true)
    (hps : ps.all (Point.plain s.cfg) = true := by rfl) : (s.startAt ps).Flows :=
  .of_plain hcfg hps

theorem State.raiseOpError_flows {s : State} (code : Half) (hcfg : s.cfg.wellFormed = true) : (s.raiseOpError code).Flows :=
  .of_plain hcfg rfl

theorem State.hostOp_flows {s : State} {body : State → State} (hbusy : s.busy = false) (h : (body s.issue).Flows) :
    (s.hostOp body).Flows := by
  rwa [State.hostOp_idle _ hbusy]

theorem State.ifReady_flows {s : State} {ps : List Point} (hcfg : s.cfg.wellFormed = true)
    (hps : ps.all (Point.plain s.cfg) = true := by rfl) : (s.ifReady ps).Flows := by
  unfold State.ifReady
  split
  · exact State.startAt_flows hcfg hps
  · exact State.raiseOpError_flows _ hcfg

theorem State.ifIdle_flows {s : State} {body : State → State} (hcfg : s.cfg.wellFormed = true) (h : (body s).Flows) :
    (s.ifIdle body).Flows := by
  unfold State.ifIdle
  split
  · exact h
  · exact State.raiseOpError_flows _ hcfg

/-- FINISH with OK = 0 releases the card and completes (44_initializer.md R220). -/
theorem State.failWith_flows {s : State} (code : Half) (hcfg : s.cfg.wellFormed = true) : ((s.startAt []).failWith code).Flows :=
  .of_plain hcfg rfl

/-- The operation that a CTRL value decodes to starts at points of the pseudocode, whatever SEQPOS held. -/
theorem exec_decodeCtrl_flows {s : State} (v : Half) (hcfg : s.cfg.wellFormed = true) (hbusy : s.busy = false) :
    ∃ t, exec (decodeCtrl v) s = .next t ∧ t.Flows := by
  unfold decodeCtrl
  split
  case h_1 => exact ⟨_, exec_hostReserved0 s, State.hostOp_flows hbusy (State.raiseOpError_flows _ hcfg)⟩
  case h_2 => exact ⟨_, exec_hostInitialize s, State.hostOp_flows hbusy (State.startAt_flows hcfg)⟩
  case h_3 => exact ⟨_, exec_hostReadSector s, State.hostOp_flows hbusy (State.ifReady_flows hcfg)⟩
  case h_4 => exact ⟨_, exec_hostWriteSector s, State.hostOp_flows hbusy (State.ifReady_flows hcfg)⟩
  case h_5 =>
    exact ⟨_, exec_hostSendCommand s, State.hostOp_flows hbusy (State.ifIdle_flows hcfg (State.startAt_flows hcfg))⟩
  case h_6 => exact ⟨_, exec_hostExchange s, State.hostOp_flows hbusy (State.ifIdle_flows hcfg (State.startAt_flows hcfg))⟩
  case h_7 =>
    refine ⟨_, exec_hostFinish s, State.hostOp_flows hbusy (State.ifIdle_flows hcfg ?_)⟩
    split
    · exact State.startAt_flows hcfg
    · exact State.failWith_flows _ hcfg
  case h_8 => exact ⟨_, exec_hostReserved7 s, State.hostOp_flows hbusy (State.raiseOpError_flows _ hcfg)⟩

/-! ## Every move goes on (R280) -/

/-- A CTRL write is the overrun while BUSY = 1, and else an operation whose control flow settles. -/
theorem runEvent_ctrlWrite_next {s : State} (v : Half) (hcfg : s.cfg.wellFormed = true) :
    ∃ t, runEvent (.hostWrite (s.cfg.base + ctrlOffset) v) s = .next t := by
  cases hbusy : s.busy with
  | true =>
    have hstill : movesSeq (.hostWrite (s.cfg.base + ctrlOffset) v) s = false := by simp [movesSeq, hbusy]
    exact ⟨_, (runEvent_still hstill).trans ((hostWrite_ctrl s v).trans (exec_decodeCtrl_busy v hbusy))⟩
  | false =>
    obtain ⟨t, ht, hflows⟩ := exec_decodeCtrl_flows v hcfg hbusy
    obtain ⟨u, hu, -, -⟩ := settle_settles hflows.cfg hflows.pointsNative hflows.storeInRange
    rw [runEvent_moves (movesSeq_hostWrite.mpr ⟨rfl, hbusy⟩)]
    exact ⟨u, andThen_eq_next.mpr ⟨t, (hostWrite_ctrl s v).trans ht, hu⟩⟩

/-- A host write inside the window reaches CTRL, a register or a byte of BUF (10_state.md R33). -/
theorem runEvent_hostWrite_next {s : State} {addr : Nat} (v : Half) (hcfg : s.cfg.wellFormed = true)
    (hwin : (windowOffset? s.cfg addr).isSome = true) : ∃ t, runEvent (.hostWrite addr v) s = .next t := by
  obtain ⟨off, hoff⟩ := Option.isSome_iff_exists.mp hwin
  obtain ⟨rfl, hsize⟩ := windowOffset?_eq_some.mp hoff
  by_cases hctrl : off = 0
  · subst hctrl
    exact runEvent_ctrlWrite_next v hcfg
  · have hstill : movesSeq (.hostWrite (s.cfg.base + off) v) s = false := by simp [movesSeq, ctrlOffset, hctrl]
    exact ⟨_, (runEvent_still hstill).trans (hostWrite_inside v hctrl hsize)⟩

/-- A host read inside the window returns a register or a byte of BUF (10_state.md R33). -/
theorem runEvent_hostRead_next {s : State} {addr : Nat} (hwin : (windowOffset? s.cfg addr).isSome = true) :
    ∃ t, runEvent (.hostRead addr) s = .next t := by
  obtain ⟨off, hoff⟩ := Option.isSome_iff_exists.mp hwin
  rw [runEvent_hostRead, hostReadAt, hoff]
  exact ⟨_, rfl⟩

/-- At IDLE a step of SEQ changes nothing, and elsewhere it settles after its primitive. -/
theorem State.Inv.seqStep_next {s : State} (hinv : s.Inv) (hcfg : s.cfg.wellFormed = true) : ∃ t, seqStep s = .next t := by
  by_cases hpos : s.seqpos = []
  · exact ⟨s, seqStep_idle hpos⟩
  · obtain ⟨t, ht, -, -⟩ := hinv.seqStep_one_event hcfg hpos
    exact ⟨t, ht⟩

theorem State.Inv.runEvent_next {s : State} (hinv : s.Inv) (hcfg : s.cfg.wellFormed = true) (e : Event)
    (hwin : eventInWindow s.cfg e = true) : ∃ t, runEvent e s = .next t := by
  cases e with
  | seq => exact hinv.seqStep_next hcfg
  | tick => exact ⟨_, exec_tick s⟩
  | hostRead addr => exact runEvent_hostRead_next hwin
  | hostWrite addr v => exact runEvent_hostWrite_next v hcfg hwin
  | statusRead => exact ⟨_, exec_statusRead s⟩

/-- The invariant does not speak of the moves still to come. -/
theorem State.Inv.takeEvent {s : State} (hinv : s.Inv) : s.takeEvent.Inv := by
  obtain ⟨⟨hbuf, htcount, hcode, hreserved, hopen, hstore, hnative, hphase⟩, hset⟩ := hinv
  exact ⟨⟨hbuf, htcount, hcode, hreserved, hopen, hstore, hnative, hphase⟩, hset⟩

/-- Settles O11: a step is the next move of one agent, and each of the five kinds of move goes on. -/
theorem machineNeverStops : Obligations.MachineNeverStops := by
  intro s hinv hcfg hwin
  rw [State.goesOn, step_eq hcfg]
  exact hinv.takeEvent.runEvent_next hcfg s.env.nextEvent hwin

end Sys2Proof.Machine

/-! # Decoding the words of an operation (30_encoding.md sections 1 to 5)

The words of a frame row are the frame of an index and an argument, and when the configuration keeps the rows apart that index
and argument belong to no other row; so the decoder, which reads every frame back, gives the row back too. A row of one byte
is given back by the test at its place, and the fields of a response byte by its bits. -/

namespace Sys2Proof

/-! ## Frames -/

theorem Config.rowsDistinct_iff (c : Config) : c.rowsDistinct = true ↔
    [c.idxStop, c.idxGoIdle, c.idxIfCond, c.idxReadSingle, c.idxWriteSingle, c.idxAppPrefix].Nodup ∧
      c.stopToken ≠ c.dataTokenWrite := by
  simp [Config.rowsDistinct]

/-- An index and an argument with no row of their own belong to CMD_FRAME. -/
theorem frameOf_of_not_ownRow {c : Config} {idx : Index} {arg : Long} (h : c.ownRow idx arg = false) :
    frameOf c idx arg = .cmdFrame idx arg := by
  simp only [Config.ownRow, Bool.or_eq_false_iff, Bool.and_eq_false_iff, beq_eq_false_iff_ne] at h
  obtain ⟨⟨⟨⟨⟨hstop, hgoIdle⟩, hifCond⟩, hread⟩, hwrite⟩, hprefix⟩ := h
  rw [frameOf, if_neg hstop, if_neg hgoIdle, if_neg hifCond, if_neg hread, if_neg hwrite,
    if_neg (not_and_or.mpr hprefix)]

/-- The words of a frame row are those of an index and an argument that belong to this row. -/
theorem exists_frameOf_of_encode_frame {c : Config} {i : Instr} {bs : List Byte} (hc : c.rowsDistinct = true)
    (hi : i.wellFormed c = true) (h : encode c i = some (.frame, bs)) :
    ∃ idx arg, bs = frameBytes c idx arg ∧ i = frameOf c idx arg := by
  -- the last role first: each index differs from those that `frameOf` tests before it
  have hrows : [c.idxAppPrefix, c.idxWriteSingle, c.idxReadSingle, c.idxIfCond, c.idxGoIdle, c.idxStop].Nodup :=
    List.nodup_reverse.mp ((Config.rowsDistinct_iff c).mp hc).1
  simp only [List.nodup_cons, List.mem_cons, not_or] at hrows
  cases i with
  | cmdFrame idx arg =>
    cases h
    exact ⟨idx, arg, rfl, (frameOf_of_not_ownRow (by simpa [Instr.wellFormed] using hi)).symm⟩
  | goIdle | ifCond | stopTransmission | readSingleBlock | writeSingleBlock | appPrefix =>
    cases h
    exact ⟨_, _, rfl, by simp [frameOf, hrows]⟩
  | _ => cases h

theorem decode_encode_frame {c : Config} {i : Instr} {bs : List Byte} (hc : c.rowsDistinct = true)
    (hi : i.wellFormed c = true) (h : encode c i = some (.frame, bs)) : decode c .frame bs = .ok i :=
  (framesAreThoseTheBlockBuilds c bs i).mpr (exists_frameOf_of_encode_frame hc hi h)

/-! ## The tokens that `send_block` sends -/

theorem decode_sentToken_stopToken (c : Config) : decode c .sentToken [c.stopToken] = .ok .stopToken := by
  simp [decode, decodeByte]

theorem decode_sentToken_dataTokenWrite {c : Config} (hc : c.rowsDistinct = true) :
    decode c .sentToken [c.dataTokenWrite] = .ok .dataTokenWrite := by
  have hne := ((Config.rowsDistinct_iff c).mp hc).2.symm
  simp [decode, decodeByte, hne]

/-! ## The fields of a response byte -/

@[simp] theorem r1IsValid_r1Byte (flags : BitVec 7) : r1IsValid (r1Byte flags) = true := by
  revert flags; decide

@[simp] theorem r1Byte_flags (flags : BitVec 7) : (r1Byte flags).extractLsb' 0 7 = flags :=
  BitVec.extractLsb'_append_eq_right

theorem decode_responsePoll_r1Byte (c : Config) (flags : BitVec 7) :
    decode c .responsePoll [r1Byte flags] = .ok (.r1Valid flags) := by
  simp [decode, decodeByte]

@[simp] theorem isAccepted_acceptByte (high : BitVec 3) : isAccepted (acceptByte high) = true := by
  revert high; decide

@[simp] theorem acceptByte_high (high : BitVec 3) : (acceptByte high).extractLsb' 5 3 = high :=
  BitVec.extractLsb'_append_eq_left

theorem decode_dataResponse_acceptByte (c : Config) (high : BitVec 3) :
    decode c .dataResponse [acceptByte high] = .ok (.dataRespAccept high) := by
  simp [decode, decodeByte]

/-! ## Every operation -/

/-- Settles O2, by the kind of the row: the frames as rows of their index and argument, a byte by the test at its place, the
host's words by running the decoder; an internal operation has no words. -/
theorem decodeEncodeRoundTrip : Obligations.DecodeEncodeRoundTrip := by
  intro c i p bs hc hi h
  cases i with
  | hostReserved0 | hostInitialize | hostReadSector | hostWriteSector | hostSendCommand | hostExchange | hostFinish
  | hostReserved7 | statusRead => cases h; rfl
  | cmdFrame | goIdle | ifCond | stopTransmission | readSingleBlock | writeSingleBlock | appPrefix =>
    cases h
    exact decode_encode_frame hc hi rfl
  | dataTokenWrite => cases h; exact decode_sentToken_dataTokenWrite hc
  | stopToken => cases h; exact decode_sentToken_stopToken c
  | r1Valid flags => cases h; exact decode_responsePoll_r1Byte c flags
  | dataRespAccept high => cases h; exact decode_dataResponse_acceptByte c high
  | startTokenRead | r1Idle | r1Ready | cardReadyIdleByte => cases h; rfl
  | _ => cases h

end Sys2Proof

/-! # Who writes the registers (10_state.md R20 to R41)

`Writes` says once what the first act of a move can do to the registers: an operation, a point of the pseudocode or a host access
writes the few registers that its constructor names and keeps the others. Each writer statement is read off it, one register at a
time. -/

namespace Sys2Proof.Machine

/-! ## The registers -/

/-- The registers that the writer statements speak of. -/
structure Registers where
  cfg : Config
  cardState : CardState
  tcount : Nat
  csa : Bool
  speed : Speed
  byteAddr : Bool
  selto : Bool
  lastR1 : Byte
  busy : Bool
  ovr : Bool
  win : Window

/-- What the registers hold in a state. -/
def State.registers (s : State) : Registers where
  cfg := s.cfg
  cardState := s.cardState
  tcount := s.tcount
  csa := s.csa
  speed := s.speed
  byteAddr := s.byteAddr
  selto := s.selto
  lastR1 := s.lastR1
  busy := s.busy
  ovr := s.ovr
  win := s.win

/-- An operation that a CTRL write issues (30_encoding.md R93). -/
def issuedByHost : Instr → Bool
  | .hostReserved0 | .hostInitialize | .hostReadSector | .hostWriteSector => true
  | .hostSendCommand | .hostExchange | .hostFinish | .hostReserved7 => true
  | _ => false

/-- What the registers can hold after the first act of the move `e` in `s`. -/
inductive Writes (s : State) (e : Event) : Registers → Prop
  | nothing : Writes s e s.registers
  | tick (hi : s.eventInstr? e = some .tick) : Writes s e { s.registers with tcount := s.tcount - 1 }
  | arm {n : Nat} (hi : s.eventInstr? e = some (.arm n)) (hn : durationFits s.cfg n = true) :
      Writes s e { s.registers with tcount := n }
  | setSpeed {v : Speed} (hi : s.eventInstr? e = some (.setSpeed v)) : Writes s e { s.registers with speed := v }
  | setCS {b : Bool} (hp : s.eventPoint? e = some (.setCS b)) : Writes s e { s.registers with csa := b }
  | sendCommand {idx : Index} {arg : Long} {app : Bool} (hi : s.eventInstr? e = some (.sendCommand idx arg app)) :
      Writes s e { s.registers with selto := false }
  | selectionFailed {idx : Index} {arg : Long} (hp : s.eventPoint? e = some (.commandSelected idx arg))
      (hok : s.ret.ok = false) : Writes s e { s.registers with selto := true }
  | readyWaitFailed {token : Byte} (hp : s.eventPoint? e = some (.blockReady token)) (hok : s.ret.ok = false) :
      Writes s e { s.registers with selto := true }
  | latchR1 (hp : s.eventPoint? e = some .latchR1) : Writes s e { s.registers with lastR1 := s.ret.byte }
  | overrun {i : Instr} (hi : s.eventInstr? e = some i) (hhost : issuedByHost i = true) (hbusy : s.busy = true) :
      Writes s e { s.registers with ovr := true }
  | issue {i : Instr} (hi : s.eventInstr? e = some i) (hhost : issuedByHost i = true) :
      Writes s e { s.registers with busy := true }
  | toUninitialized (hi : s.eventInstr? e = some .hostInitialize) :
      Writes s e { s.registers with busy := true, cardState := .uninitialized, byteAddr := false }
  | negotiationFailed (hi : s.eventInstr? e = some .hostFinish) (hcard : s.cardState = .idle)
      (hok : s.win.fin.getLsbD 0 = false) :
      Writes s e { s.registers with busy := true, cardState := .error (0x08#8 ++ s.win.fin.extractLsb' 8 8) }
  | wentIdle (hi : s.eventInstr? e = some .r1Idle) (hpos : .goIdleTest ∈ s.seqpos) :
      Writes s e { s.registers with cardState := .idle }
  | lastAttempt (hp : s.eventPoint? e = some .goIdleTest) (hattempt : s.attempt = 255) :
      Writes s e { s.registers with cardState := .error (0x01#8 ++ s.ret.byte) }
  | becameReady (hi : s.eventInstr? e = some .r1Ready) (hpos : .finishVerdict ∈ s.seqpos) :
      Writes s e { s.registers with byteAddr := s.lat.ba, cardState := .ready }
  | readyRefused (hp : s.eventPoint? e = some .finishVerdict) :
      Writes s e { s.registers with cardState := .error (0x0C#8 ++ s.lastR1) }
  | respond (hp : s.eventPoint? e = some .respond) :
      Writes s e { s.registers with win := { s.win with resp := s.ret.byte.setWidth 16 } }
  | complete {res : Half} (hi : s.eventInstr? e = some (.complete res)) :
      Writes s e { s.registers with busy := false, win := { s.win with result := res } }
  | hostOverrun {addr : Nat} {v : Half} (he : e = .hostWrite addr v) (hbusy : s.busy = true) :
      Writes s e { s.registers with ovr := true }
  | clearOvr {v : Half} (he : e = .hostWrite (s.cfg.base + 0x002) v) (hv : v.getLsbD 1 = true) :
      Writes s e { s.registers with ovr := false }
  | operand {w : Window} (hresp : w.resp = s.win.resp) (hresult : w.result = s.win.result)
      (hreserved : s.ReservedZero → State.ReservedZero { s with win := w }) : Writes s e { s.registers with win := w }

theorem Writes.ite {s t u : State} {e : Event} {b : Prop} [Decidable b] (ht : b → Writes s e t.registers)
    (hu : ¬b → Writes s e u.registers) : Writes s e (if b then t else u).registers := by
  split
  · next h => exact ht h
  · next h => exact hu h

/-! ## The operations -/

/-- A CTRL write, whose body runs in the state that has latched the operands. -/
theorem Writes.hostOp {s u : State} {e : Event} {i : Instr} {body : State → State} (hu : u.registers = s.registers)
    (hi : s.eventInstr? e = some i) (hhost : issuedByHost i = true) (h : Writes s e (body u.issue).registers) :
    Writes s e (u.hostOp body).registers := by
  have hbusy : u.busy = s.busy := congrArg Registers.busy hu
  refine .ite (fun hb => ?_) fun _ => h
  have hovr : State.registers { u with ovr := true } = { s.registers with ovr := true } :=
    congrArg (fun r : Registers => { r with ovr := true }) hu
  rw [hovr]
  exact .overrun hi hhost (hbusy ▸ hb)

/-- What an operation writes that a move runs in `s` with `k` for its SEQPOS. -/
theorem exec_writes {s t : State} {e : Event} {i : Instr} {k : List Point} (hi : s.eventInstr? e = some i)
    (hk : k ⊆ s.seqpos) (h : exec i { s with seqpos := k } = .next t) : Writes s e t.registers := by
  cases i with
  | hostReserved0 | hostReserved7 => cases h; exact .hostOp rfl hi rfl (.issue hi rfl)
  | hostInitialize => cases h; exact .hostOp rfl hi rfl (.toUninitialized hi)
  | hostReadSector | hostWriteSector =>
    cases h; exact .hostOp rfl hi rfl (.ite (fun _ => .issue hi rfl) fun _ => .issue hi rfl)
  | hostSendCommand | hostExchange =>
    cases h; exact .hostOp rfl hi rfl (.ite (fun _ => .issue hi rfl) fun _ => .issue hi rfl)
  | hostFinish =>
    cases h
    refine .hostOp rfl hi rfl (.ite (fun hcard => .ite (fun _ => .issue hi rfl) fun hok => ?_) fun _ => .issue hi rfl)
    exact .negotiationFailed hi hcard (Bool.eq_false_iff.mpr hok)
  | tick => cases h; exact .tick hi
  | arm n =>
    cases hn : durationFits s.cfg n with
    | true => cases h.symm.trans (exec_arm _ hn); exact .arm hi hn
    | false => cases h.symm.trans (exec_arm_too_long _ hn)
  | setSpeed v => cases h; exact .setSpeed hi
  | sendCommand idx arg app => cases h; exact .sendCommand hi
  | complete res => cases h; exact .complete hi
  | sectorArg sector => cases h; exact .ite (fun _ => .ite (fun _ => .nothing) fun _ => .nothing) fun _ => .nothing
  | r1Idle =>
    simp only [exec, execR1Idle] at h
    split at h <;> cases h
    · exact .wentIdle hi (hk (by simp_all))
    · exact .nothing
  | r1Ready =>
    simp only [exec, execR1Ready] at h
    split at h <;> cases h
    · exact .becameReady hi (hk (by simp_all))
    all_goals exact .nothing
  | _ => cases h; exact .nothing

/-! ## The points of the pseudocode -/

/-- What a point writes that is no operation. -/
theorem runPoint_writes {s t : State} {p : Point} {k : List Point} (hpos : s.seqpos = p :: k) (hi : s.seqInstr? = none)
    (h : runPoint p { s with seqpos := k } = .next t) : Writes s .seq t.registers := by
  have hp : s.eventPoint? .seq = some p := by simp [State.eventPoint?, hi, hpos]
  cases p with
  | op i => simp [State.seqInstr?, hpos] at hi
  | word nbits w =>
    obtain ⟨e, he⟩ := decodeTableWord_eq_none (by simpa [State.seqInstr?, hpos] using hi)
    simp only [runPoint, he] at h
    cases h
  | setCS b => cases h; exact .setCS hp
  | latchR1 => cases h; exact .latchR1 hp
  | respond => cases h; exact .respond hp
  | commandSelected idx arg =>
    cases h; exact .ite (fun _ => .nothing) fun hok => .selectionFailed hp (Bool.eq_false_iff.mpr hok)
  | blockReady token =>
    cases h; exact .ite (fun _ => .nothing) fun hok => .readyWaitFailed hp (Bool.eq_false_iff.mpr hok)
  | goIdleTest => cases h; exact .ite (fun hattempt => .lastAttempt hp hattempt) fun _ => .nothing
  | finishVerdict => cases h; exact .readyRefused hp
  | readyExpired | selected | prefixed | responsePoll | tokenPoll | tokenExpired | dummyNext | powerTest | readDone =>
    cases h; exact .ite (fun _ => .nothing) fun _ => .nothing
  | writeDone ok resp => cases h; exact .ite (fun _ => .nothing) fun _ => .ite (fun _ => .nothing) fun _ => .nothing
  | storeByte =>
    simp only [runPoint, pointStoreByte] at h
    split at h <;> cases h
    exact .nothing
  | _ => cases h; exact .nothing

/-! ## One point of SEQ -/

/-- What SEQ runs at SEQPOS: nothing at IDLE, an operation, with SEQPOS moved past it or at its test, or another point. -/
inductive SeqAct (s t : State) : Prop
  | idle (hpos : s.seqpos = []) (ht : t = s)
  | instr (i : Instr) (k : List Point) (hi : s.seqInstr? = some i) (hk : k ⊆ s.seqpos)
      (h : exec i { s with seqpos := k } = .next t)
  | point (p : Point) (k : List Point) (hpos : s.seqpos = p :: k) (hi : s.seqInstr? = none)
      (h : runPoint p { s with seqpos := k } = .next t)

theorem seqInstr?_op {s : State} {i : Instr} {k : List Point} (h : s.seqpos = .op i :: k) : s.seqInstr? = some i := by
  simp [State.seqInstr?, h]

theorem seqInstr?_word {s : State} {nbits w : Nat} {k : List Point} (h : s.seqpos = .word nbits w :: k) :
    s.seqInstr? = decodeTableWord nbits w := by
  simp [State.seqInstr?, h]

/-- At a point that is neither a call nor a placed word SEQ runs no operation unless it is a test. -/
theorem seqInstr?_eq_none {s : State} {p : Point} {k : List Point} (h : s.seqpos = p :: k) (hop : ∀ i, p ≠ .op i)
    (hword : ∀ nbits w, p ≠ .word nbits w) (htest : testAt p s = none) : s.seqInstr? = none := by
  simp only [State.seqInstr?, h]
  split <;> simp_all

theorem seqAct_of_pointStep {s t : State} (h : pointStep s = .next t) : SeqAct s t := by
  cases hpos : s.seqpos with
  | nil => rw [pointStep_idle hpos] at h; cases h; exact .idle hpos rfl
  | cons p k =>
    have hk : k ⊆ s.seqpos := hpos ▸ List.subset_cons_self p k
    by_cases hop : ∃ i, p = .op i
    · obtain ⟨i, rfl⟩ := hop
      rw [pointStep_op hpos] at h
      exact .instr i k (seqInstr?_op hpos) hk h
    by_cases hword : ∃ nbits w, p = .word nbits w
    · obtain ⟨nbits, w, rfl⟩ := hword
      rw [pointStep_point hpos rfl] at h
      cases hd : decodeWord nbits w with
      | ok i =>
        simp only [runPoint, hd] at h
        exact .instr i k (by simp [seqInstr?_word hpos, decodeTableWord, hd]) hk h
      | error e => simp only [runPoint, hd] at h; cases h
    cases htest : testAt p s with
    | none =>
      rw [pointStep_point hpos htest] at h
      exact .point p k hpos (seqInstr?_eq_none hpos (not_exists.mp hop) (fun n w hw => hword ⟨n, w, hw⟩) htest) h
    | some test =>
      obtain ⟨port, b⟩ := test
      cases hd : decode s.cfg port [b] with
      | ok i =>
        rw [pointStep_test_ok hpos htest hd] at h
        exact .instr i s.seqpos ((seqInstr?_eq_some_of_test hpos htest).mpr hd) (List.Subset.refl _) h
      | error e =>
        rw [pointStep_test_error hpos htest hd] at h
        refine .point p k hpos (Option.eq_none_iff_forall_ne_some.mpr fun i hi => ?_) h
        rw [seqInstr?_eq_some_of_test hpos htest, hd] at hi
        cases hi

theorem pointStep_writes {s t : State} (h : pointStep s = .next t) : Writes s .seq t.registers := by
  obtain ⟨-, rfl⟩ | ⟨i, k, hi, hk, hexec⟩ | ⟨p, k, hpos, hi, hrun⟩ := seqAct_of_pointStep h
  · exact .nothing
  · exact exec_writes hi hk hexec
  · exact runPoint_writes hpos hi hrun

/-! ## The host's accesses -/

/-- The reserved bits of a masked value are 0. -/
theorem and_mask_and_not (v m : Half) : v &&& m &&& ~~~m = 0 := by
  rw [BitVec.and_assoc, BitVec.and_not_self]
  exact BitVec.and_zero

theorem Writes.writeOperand {s : State} {addr : Nat} {v : Half} {w : Window} (hresp : w.resp = s.win.resp)
    (hresult : w.result = s.win.result) (hreserved : s.ReservedZero → State.ReservedZero { s with win := w }) :
    Writes s (.hostWrite addr v) (s.writeOperand w).registers :=
  .ite (fun hbusy => .hostOverrun rfl hbusy) fun _ => .operand hresp hresult hreserved

theorem regWrite_writes (s : State) (off : Nat) (v : Half) :
    Writes s (.hostWrite (s.cfg.base + off) v) (s.regWrite off v).registers := by
  unfold State.regWrite
  split
  case h_1 => exact .ite (fun hv => .clearOvr rfl hv) fun _ => .nothing
  case h_4 => exact .writeOperand rfl rfl fun ⟨_, hxdata, hfin, hresp⟩ => ⟨and_mask_and_not v _, hxdata, hfin, hresp⟩
  case h_7 => exact .writeOperand rfl rfl fun ⟨hcmd, _, hfin, hresp⟩ => ⟨hcmd, and_mask_and_not v _, hfin, hresp⟩
  case h_8 => exact .writeOperand rfl rfl fun ⟨hcmd, hxdata, _, hresp⟩ => ⟨hcmd, hxdata, and_mask_and_not v _, hresp⟩
  case h_9 => exact .nothing
  all_goals exact .writeOperand rfl rfl id

theorem hostWriteAt_writes {addr : Nat} {v : Half} {s t : State} (h : hostWriteAt addr v s = .next t) :
    Writes s (.hostWrite addr v) t.registers := by
  unfold hostWriteAt at h
  split at h
  · cases h
  next off hoff =>
    cases h
    obtain ⟨rfl, -⟩ := windowOffset?_eq_some.mp hoff
    exact .ite (fun _ => regWrite_writes s off v) fun _ => .ite (fun hbusy => .hostOverrun rfl hbusy) fun _ => .nothing

theorem hostReadAt_writes {addr : Nat} {e : Event} {s t : State} (h : hostReadAt addr s = .next t) :
    Writes s e t.registers := by
  unfold hostReadAt at h
  split at h <;> cases h
  exact .ite (fun _ => .nothing) fun _ => .ite (fun _ => .nothing) fun _ => .nothing

theorem eventInstr?_ctrl (s : State) (v : Half) :
    s.eventInstr? (.hostWrite (s.cfg.base + ctrlOffset) v) = some (decodeCtrl v) := if_pos rfl

/-- What the first act of a move writes. -/
theorem firstAct_writes {s t : State} {e : Event} (h : firstAct e s = .next t) : Writes s e t.registers := by
  cases e with
  | seq => exact pointStep_writes h
  | tick => exact exec_writes (i := .tick) rfl (List.Subset.refl _) h
  | statusRead => exact exec_writes (i := .statusRead) rfl (List.Subset.refl _) h
  | hostRead addr => exact hostReadAt_writes h
  | hostWrite addr v =>
    by_cases haddr : addr = s.cfg.base + ctrlOffset
    · subst haddr
      exact exec_writes (eventInstr?_ctrl s v) (List.Subset.refl _) ((hostWrite_ctrl s v).symm.trans h)
    · rw [firstAct, hostWrite, if_neg haddr] at h
      exact hostWriteAt_writes h

/-! ## Which operations a move runs at a point of the pseudocode -/

/-- A CTRL value is an operation that the host issues. -/
theorem issuedByHost_decodeCtrl (v : Half) : issuedByHost (decodeCtrl v) = true := by
  unfold decodeCtrl
  split <;> rfl

/-- The operation SEQ runs is one that it calls, or a byte at its test (30_encoding.md R97). -/
theorem State.PointsNative.seqInstr {s : State} {i : Instr} (hs : s.PointsNative) (h : s.seqInstr? = some i) :
    calledBySeq s.cfg i = true ∨
      ∃ p k port b, s.seqpos = p :: k ∧ testAt p s = some (port, b) ∧ decode s.cfg port [b] = .ok i := by
  cases hpos : s.seqpos with
  | nil => simp [State.seqInstr?, hpos] at h
  | cons p k =>
    have hnative : p.native s.cfg = true := hs p (hpos ▸ List.mem_cons_self)
    cases htest : testAt p s with
    | some test => exact .inr ⟨p, k, test.1, test.2, rfl, htest, (seqInstr?_eq_some_of_test hpos htest).mp h⟩
    | none =>
      cases p with
      | op j => rw [seqInstr?_op hpos] at h; cases h; exact .inl hnative
      | word => cases hnative
      | _ => rw [seqInstr?_eq_none hpos nofun nofun htest] at h; cases h

/-- The byte at a test is no operation of the host. -/
theorem decode_test_not_issuedByHost {s : State} {p : Point} {port : Port} {b : Byte} {i : Instr}
    (htest : testAt p s = some (port, b)) (hd : decode s.cfg port [b] = .ok i) : issuedByHost i = false := by
  cases p with
  | readyPoll | responsePoll | tokenPoll | dataResponse | goIdleTest | readCommand | writeCommand | finishVerdict =>
    cases htest
    simp only [decode, decodeByte] at hd
    split at hd <;> cases hd
    rfl
  | _ => cases htest

/-- The host issues its operations by writing CTRL. -/
theorem State.PointsNative.ctrlWrite {s : State} {e : Event} {i : Instr} (hs : s.PointsNative)
    (h : s.eventInstr? e = some i) (hhost : issuedByHost i = true) : ∃ v, e = .hostWrite s.cfg.base v := by
  cases e with
  | seq =>
    obtain hcalled | ⟨p, k, port, b, -, htest, hd⟩ := hs.seqInstr h
    · cases i <;> cases hhost <;> cases hcalled
    · rw [decode_test_not_issuedByHost htest hd] at hhost; cases hhost
  | hostRead => cases h
  | tick | statusRead => cases h; cases hhost
  | hostWrite addr v =>
    obtain ⟨rfl, -⟩ := Option.ite_none_right_eq_some.mp h
    exact ⟨v, rfl⟩

/-- A response byte is an operation only at a test of SEQ. -/
theorem State.PointsNative.tested {s : State} {e : Event} {i : Instr} (hs : s.PointsNative)
    (h : s.eventInstr? e = some i) (hi : i = .r1Idle ∨ i = .r1Ready) :
    e = .seq ∧ ∃ p k port b, s.seqpos = p :: k ∧ testAt p s = some (port, b) ∧ decode s.cfg port [b] = .ok i := by
  cases e with
  | seq =>
    refine ⟨rfl, (hs.seqInstr h).resolve_left fun hcalled => ?_⟩
    obtain rfl | rfl := hi <;> cases hcalled
  | hostRead => cases h
  | tick | statusRead => cases h; simp at hi
  | hostWrite addr v =>
    obtain ⟨-, h⟩ := Option.ite_none_right_eq_some.mp h
    have hhost := issuedByHost_decodeCtrl v
    rw [Option.some.inj h] at hhost
    obtain rfl | rfl := hi <;> cases hhost

/-! ## The last pending point -/

/-- A point that still has the completion before it has nothing pending behind it (60_exceptions.md R282). -/
theorem State.OperationOpen.closing_last {s : State} {p : Point} {k : List Point} (hs : s.OperationOpen)
    (h : s.seqpos = p :: k) (hp : p.closing = true) : k = [] := by
  obtain ⟨-, -, hdrop⟩ := hs
  cases k with
  | nil => rfl
  | cons q k =>
    have := hdrop p (by simp [h])
    rw [hp] at this
    cases this

/-- A closing point that is pending stands first when a closing point does. -/
theorem State.OperationOpen.eq_head {s : State} {p q : Point} {k : List Point} (hs : s.OperationOpen)
    (h : s.seqpos = p :: k) (hp : p.closing = true) (hq : q ∈ s.seqpos) : q = p := by
  rw [h, hs.closing_last h hp] at hq
  exact List.mem_singleton.mp hq

/-- The byte that SEQ runs as R1_IDLE is 0x01 at the go-idle test. -/
theorem decode_test_r1Idle {s : State} {p : Point} {port : Port} {b : Byte} (htest : testAt p s = some (port, b))
    (hd : decode s.cfg port [b] = .ok .r1Idle) : p = .goIdleTest ∧ s.ret.byte = 0x01 := by
  cases p with
  | goIdleTest =>
    cases htest
    simp only [decode, decodeByte] at hd
    split at hd
    · next hb => exact ⟨rfl, hb⟩
    · cases hd
  | readyPoll | responsePoll | tokenPoll | dataResponse | readCommand | writeCommand | finishVerdict =>
    cases htest
    simp only [decode, decodeByte] at hd
    split at hd <;> cases hd
  | _ => cases htest

/-- R1_READY stands at the last point of an operation, and at FINISH's it is LASTR1 that is 0x00. -/
theorem decode_test_r1Ready {s : State} {p : Point} {port : Port} {b : Byte} (htest : testAt p s = some (port, b))
    (hd : decode s.cfg port [b] = .ok .r1Ready) : p.closing = true ∧ (p = .finishVerdict → s.lastR1 = 0x00) := by
  cases p with
  | readCommand | writeCommand => exact ⟨rfl, nofun⟩
  | finishVerdict =>
    cases htest
    simp only [decode, decodeByte] at hd
    split at hd
    · next hb => exact ⟨rfl, fun _ => hb⟩
    · cases hd
  | readyPoll | responsePoll | tokenPoll | dataResponse | goIdleTest =>
    cases htest
    simp only [decode, decodeByte] at hd
    split at hd <;> cases hd
  | _ => cases htest

/-- R1_IDLE as a step of SEQ (44_initializer.md R216). -/
theorem State.Sound.r1Idle {s : State} {e : Event} (hs : s.Sound) (hi : s.eventInstr? e = some .r1Idle) :
    s.seqpos.head? = some .goIdleTest ∧ s.ret.byte = 0x01 := by
  obtain ⟨-, p, k, port, b, hpos, htest, hd⟩ := hs.pointsNative.tested hi (.inl rfl)
  obtain ⟨rfl, hb⟩ := decode_test_r1Idle htest hd
  exact ⟨by rw [hpos]; rfl, hb⟩

/-- R1_READY as a step of SEQ while FINISH's test is pending (44_initializer.md R219). -/
theorem State.Sound.r1Ready {s : State} {e : Event} (hs : s.Sound) (hi : s.eventInstr? e = some .r1Ready)
    (hm : .finishVerdict ∈ s.seqpos) : s.seqpos.head? = some .finishVerdict ∧ s.lastR1 = 0x00 := by
  obtain ⟨-, p, k, port, b, hpos, htest, hd⟩ := hs.pointsNative.tested hi (.inr rfl)
  obtain ⟨hclosing, hlast⟩ := decode_test_r1Ready htest hd
  have hp := hs.operationOpen.eq_head hpos hclosing hm
  exact ⟨by rw [hpos, hp]; rfl, hlast hp.symm⟩

/-! ## The point that a move runs -/

theorem eventPoint?_eq_some {s : State} {e : Event} {p : Point} (h : s.eventPoint? e = some p) :
    e = .seq ∧ s.seqInstr? = none ∧ ∃ k, s.seqpos = p :: k := by
  unfold State.eventPoint? at h
  split at h
  · next hnone hpos => cases h; exact ⟨rfl, hnone, _, hpos⟩
  · cases h

/-- A point that SEQ runs is pending. -/
theorem mem_seqpos_of_eventPoint? {s : State} {e : Event} {p : Point} (h : s.eventPoint? e = some p) : p ∈ s.seqpos := by
  obtain ⟨-, -, k, hpos⟩ := eventPoint?_eq_some h
  exact hpos ▸ List.mem_cons_self

theorem not_goIdle_of_eventPoint? {s : State} {e : Event} (h : s.eventPoint? e = some .goIdleTest) : s.ret.byte ≠ 0x01 := by
  intro hb
  obtain ⟨-, hnone, k, hpos⟩ := eventPoint?_eq_some h
  have hi : s.seqInstr? = some .r1Idle := (seqInstr?_eq_some_of_test hpos rfl).mpr (by simp [decode, decodeByte, hb])
  rw [hnone] at hi
  cases hi

theorem not_ready_of_eventPoint? {s : State} {e : Event} (h : s.eventPoint? e = some .finishVerdict) : s.lastR1 ≠ 0x00 := by
  intro hb
  obtain ⟨-, hnone, k, hpos⟩ := eventPoint?_eq_some h
  have hi : s.seqInstr? = some .r1Ready := (seqInstr?_readyTest hpos rfl).mp hb
  rw [hnone] at hi
  cases hi

/-! ## CARDSTATE and ERRCODE (10_state.md R21; 44_initializer.md R210) -/

/-- Settles O12: the writes of CARDSTATE, each at its place in INITIALIZE or FINISH. -/
theorem cardStateWriters : Obligations.CardStateWriters := by
  intro s t e hs h hne
  have hw := firstAct_writes h
  generalize hr : t.registers = r at hw
  have hafter : t.cardState = r.cardState := congrArg Registers.cardState hr
  rw [hafter] at hne ⊢
  obtain ⟨hgoIdle, hfinish⟩ := hs.phaseFits
  cases hw with
  | toUninitialized hi => exact .inl ⟨hi, rfl⟩
  | wentIdle hi hm =>
    obtain ⟨hhead, hb⟩ := hs.r1Idle hi
    exact .inr (.inl ⟨hi, hhead, hgoIdle (.inr hm), hb, rfl⟩)
  | lastAttempt hp hattempt =>
    exact .inr (.inr (.inl
      ⟨hp, hgoIdle (.inr (mem_seqpos_of_eventPoint? hp)), hattempt, not_goIdle_of_eventPoint? hp, rfl⟩))
  | becameReady hi hm =>
    obtain ⟨hhead, hb⟩ := hs.r1Ready hi hm
    exact .inr (.inr (.inr (.inl ⟨hi, hhead, hfinish hm, hb, rfl⟩)))
  | negotiationFailed hi hcard hok => exact .inr (.inr (.inr (.inr (.inl ⟨hi, hcard, hok, rfl⟩))))
  | readyRefused hp =>
    exact .inr (.inr (.inr (.inr (.inr
      ⟨hp, hfinish (mem_seqpos_of_eventPoint? hp), not_ready_of_eventPoint? hp, rfl⟩))))
  | _ => exact absurd rfl hne

/-! ## TCOUNT, CSA, SPEED, BYTEADDR, LASTR1 and the configuration (10_state.md R22 to R28) -/

theorem Writes.tcount {s : State} {e : Event} {r : Registers} (h : Writes s e r) (hne : r.tcount ≠ s.tcount) :
    (s.eventInstr? e = some .tick ∧ r.tcount = s.tcount - 1) ∨ s.eventInstr? e = some (.arm r.tcount) := by
  cases h with
  | tick hi => exact .inl ⟨hi, rfl⟩
  | arm hi => exact .inr hi
  | _ => exact absurd rfl hne

theorem Writes.csa {s : State} {e : Event} {r : Registers} (h : Writes s e r) (hne : r.csa ≠ s.csa) :
    s.eventPoint? e = some (.setCS r.csa) := by
  cases h with
  | setCS hp => exact hp
  | _ => exact absurd rfl hne

theorem Writes.speed {s : State} {e : Event} {r : Registers} (h : Writes s e r) (hne : r.speed ≠ s.speed) :
    s.eventInstr? e = some (.setSpeed r.speed) := by
  cases h with
  | setSpeed hi => exact hi
  | _ => exact absurd rfl hne

theorem Writes.byteAddr {s : State} {e : Event} {r : Registers} (h : Writes s e r) (hs : s.Sound)
    (hne : r.byteAddr ≠ s.byteAddr) :
    (s.eventInstr? e = some .hostInitialize ∧ r.byteAddr = false) ∨
    (s.eventInstr? e = some .r1Ready ∧ s.seqpos.head? = some .finishVerdict ∧ r.byteAddr = s.lat.ba) := by
  cases h with
  | toUninitialized hi => exact .inl ⟨hi, rfl⟩
  | becameReady hi hm => exact .inr ⟨hi, (hs.r1Ready hi hm).1, rfl⟩
  | _ => exact absurd rfl hne

theorem Writes.lastR1 {s : State} {e : Event} {r : Registers} (h : Writes s e r) (hne : r.lastR1 ≠ s.lastR1) :
    s.eventPoint? e = some .latchR1 ∧ r.lastR1 = s.ret.byte := by
  cases h with
  | latchR1 hp => exact ⟨hp, rfl⟩
  | _ => exact absurd rfl hne

theorem Writes.cfg {s : State} {e : Event} {r : Registers} (h : Writes s e r) : r.cfg = s.cfg := by
  cases h <;> rfl

/-- Settles O13, register by register. -/
theorem lineTimerAndResponseWriters : Obligations.LineTimerAndResponseWriters := by
  intro s t e hs h
  have hw : Writes s e t.registers := firstAct_writes h
  exact ⟨hw.tcount, hw.csa, hw.speed, hw.byteAddr hs, hw.lastR1, hw.cfg⟩

/-! ## SELTO (10_state.md R27) -/

/-- Settles O14: the entry of `send_command` and the two failed waits are SELTO's writers. -/
theorem seltoWriters : Obligations.SeltoWriters := by
  intro s t e h hne
  have hw := firstAct_writes h
  generalize hr : t.registers = r at hw
  have hafter : t.selto = r.selto := congrArg Registers.selto hr
  rw [hafter] at hne ⊢
  cases hw with
  | sendCommand hi => exact .inl ⟨rfl, _, _, _, hi⟩
  | selectionFailed hp hok => exact .inr ⟨rfl, hok, .inl ⟨_, _, hp⟩⟩
  | readyWaitFailed hp hok => exact .inr ⟨rfl, hok, .inr ⟨_, hp⟩⟩
  | _ => exact absurd rfl hne

/-! ## BUSY, OVR, RESP and RESULT (10_state.md R31, R32, R40, R41) -/

theorem Writes.busy_set {s : State} {e : Event} {r : Registers} (h : Writes s e r) (hs : s.PointsNative)
    (hbefore : s.busy = false) (hafter : r.busy = true) : ∃ v, e = .hostWrite s.cfg.base v := by
  cases h with
  | issue hi hhost => exact hs.ctrlWrite hi hhost
  | toUninitialized hi => exact hs.ctrlWrite hi rfl
  | negotiationFailed hi => exact hs.ctrlWrite hi rfl
  | complete => cases hafter
  | _ => exact absurd (hbefore.symm.trans hafter) Bool.false_ne_true

theorem Writes.busy_clear {s : State} {e : Event} {r : Registers} (h : Writes s e r) (hbefore : s.busy = true)
    (hafter : r.busy = false) : ∃ res, s.eventInstr? e = some (.complete res) := by
  cases h with
  | complete hi => exact ⟨_, hi⟩
  | issue | toUninitialized | negotiationFailed => cases hafter
  | _ => exact absurd (hafter.symm.trans hbefore) Bool.false_ne_true

theorem Writes.ovr_set {s : State} {e : Event} {r : Registers} (h : Writes s e r) (hs : s.PointsNative)
    (hbefore : s.ovr = false) (hafter : r.ovr = true) : s.busy = true ∧ ∃ addr v, e = .hostWrite addr v := by
  cases h with
  | overrun hi hhost hbusy => exact ⟨hbusy, _, hs.ctrlWrite hi hhost⟩
  | hostOverrun he hbusy => exact ⟨hbusy, _, _, he⟩
  | clearOvr => cases hafter
  | _ => exact absurd (hbefore.symm.trans hafter) Bool.false_ne_true

theorem Writes.ovr_clear {s : State} {e : Event} {r : Registers} (h : Writes s e r) (hbefore : s.ovr = true)
    (hafter : r.ovr = false) : ∃ v, e = .hostWrite (s.cfg.base + 0x002) v ∧ v.getLsbD 1 = true := by
  cases h with
  | clearOvr he hv => exact ⟨_, he, hv⟩
  | overrun | hostOverrun => cases hafter
  | _ => exact absurd (hafter.symm.trans hbefore) Bool.false_ne_true

theorem Writes.resp {s : State} {e : Event} {r : Registers} (h : Writes s e r) (hne : r.win.resp ≠ s.win.resp) :
    s.eventPoint? e = some .respond ∧ r.win.resp = s.ret.byte.setWidth 16 := by
  cases h with
  | respond hp => exact ⟨hp, rfl⟩
  | operand hresp => exact absurd hresp hne
  | _ => exact absurd rfl hne

theorem Writes.result {s : State} {e : Event} {r : Registers} (h : Writes s e r) (hne : r.win.result ≠ s.win.result) :
    s.eventInstr? e = some (.complete r.win.result) := by
  cases h with
  | complete hi => exact hi
  | operand _ hresult => exact absurd hresult hne
  | _ => exact absurd rfl hne

/-- Settles O15, register by register; a host operation is issued by a CTRL write since SEQ calls none. -/
theorem handshakeWriters : Obligations.HandshakeWriters := by
  intro s t e hs h
  have hw : Writes s e t.registers := firstAct_writes h
  exact ⟨hw.busy_set hs.pointsNative, hw.busy_clear, hw.ovr_set hs.pointsNative, hw.ovr_clear, hw.resp, hw.result⟩

end Sys2Proof.Machine

/-! # SEQ keeps an operation open until its completion (10_state.md R31; 60_exceptions.md R282)

Of the pending points of an operation the last one alone leads to its completion, and it is there that CARDSTATE matters. A point
before the last opens points that do not complete anything, or raises an error; the last one is replaced by another last point,
until `complete` leaves nothing. -/

namespace Sys2Proof.Machine

/-! ## The pending points of an operation -/

/-- CARDSTATE where a test of INITIALIZE or FINISH is pending (44_initializer.md R210). -/
def Point.standsIn (c : CardState) : Point → Prop
  | .firstAttempt | .goIdleTest => c = .uninitialized
  | .finishVerdict => c = .idle
  | _ => True

/-- SEQ is at IDLE, or an operation is in progress and its completion lies behind the last of its pending points alone. -/
inductive State.Underway (s : State) : Prop
  | idle (hbusy : s.busy = false) (hpos : s.seqpos = [])
  | running (qs : List Point) (q : Point) (hbusy : s.busy = true) (hcard : q.standsIn s.cardState)
      (hpos : s.seqpos = qs ++ [q] := by rfl) (hqs : qs.all (!·.closing) = true := by rfl)
      (hq : q.closing = true := by rfl)

theorem all_not_closing {qs : List Point} : qs.all (!·.closing) = true ↔ ∀ p ∈ qs, p.closing = false := by
  simp

theorem State.Underway.operationOpen {s : State} (h : s.Underway) : s.OperationOpen := by
  obtain ⟨hbusy, hpos⟩ | ⟨qs, q, hbusy, -, hpos, hqs, hq⟩ := h
  · simp [State.OperationOpen, hbusy, hpos]
  · simp [State.OperationOpen, hbusy, hpos, hq]
    exact all_not_closing.mp hqs

/-- The tests of INITIALIZE and FINISH are last points. -/
theorem State.Underway.phaseFits {s : State} (h : s.Underway) : s.PhaseFits := by
  obtain ⟨-, hpos⟩ | ⟨qs, q, -, hcard, hpos, hqs, -⟩ := h
  · simp [State.PhaseFits, hpos]
  · have hlast {p : Point} (hp : p.closing = true) (hm : p ∈ s.seqpos) : p = q := by
      rw [hpos] at hm
      refine (List.mem_append.mp hm).elim (fun hm => ?_) List.mem_singleton.mp
      rw [all_not_closing.mp hqs p hm] at hp
      cases hp
    refine ⟨fun hm => ?_, fun hm => ?_⟩
    · obtain hm | hm := hm <;> cases hlast rfl hm <;> exact hcard
    · cases hlast rfl hm
      exact hcard

theorem State.Sound.underway {s : State} (hs : s.Sound) : s.Underway := by
  obtain ⟨hbusy, hlast, hdrop⟩ := hs.operationOpen
  obtain ⟨hgoIdle, hfinish⟩ := hs.phaseFits
  cases hb : s.busy with
  | false => exact .idle hb (by simpa [hb] using hbusy)
  | true =>
    have hne : s.seqpos ≠ [] := hbusy.mp hb
    have hpos := List.dropLast_append_getLast hne
    have hmem := List.getLast_mem hne
    refine .running _ _ hb ?_ hpos.symm (all_not_closing.mpr hdrop) (hlast _ (List.getLast?_eq_some_getLast hne))
    generalize s.seqpos.getLast hne = q at hmem
    cases q with
    | firstAttempt => exact hgoIdle (.inl hmem)
    | goIdleTest => exact hgoIdle (.inr hmem)
    | finishVerdict => exact hfinish hmem
    | _ => trivial

theorem State.Underway.ite {t u : State} {b : Prop} [Decidable b] (ht : b → t.Underway) (hu : ¬b → u.Underway) :
    (if b then t else u).Underway := by
  split
  · next h => exact ht h
  · next h => exact hu h

/-- A raised error is completed next (60_exceptions.md R283). -/
theorem State.Underway.raiseOpError {s : State} (code : Half) (hbusy : s.busy = true) : (s.raiseOpError code).Underway :=
  .running [] (.op (.complete (negCode code))) hbusy trivial

/-! ## A point before the last one -/

/-- SEQ has run a point before the last one in `s`, whose SEQPOS is what followed it: BUSY and CARDSTATE stay, and no point opens
that leads to the completion, or an error is raised. -/
inductive Opens (s t : State) : Prop
  | push (qs : List Point) (hpos : t.seqpos = qs ++ s.seqpos) (hqs : qs.all (!·.closing) = true)
      (hbusy : t.busy = s.busy := by rfl) (hcard : t.cardState = s.cardState := by rfl)
  | raised (code : Half) (ht : t = s.raiseOpError code)

theorem Opens.ite {s t u : State} {b : Prop} [Decidable b] (ht : Opens s t) (hu : Opens s u) :
    Opens s (if b then t else u) := by
  split
  · exact ht
  · exact hu

/-- What follows a point before the last one still holds the last one. -/
theorem Opens.underway {s t : State} {p : Point} {k : List Point} (hs : s.Underway) (hpos : s.seqpos = p :: k)
    (hp : p.closing = false) (h : Opens { s with seqpos := k } t) : t.Underway := by
  obtain ⟨-, hnil⟩ | ⟨qs, q, hbusy, hcard, hlast, hqs, hq⟩ := hs
  · rw [hnil] at hpos; cases hpos
  obtain ⟨rs, ht, hrs, htbusy, htcard⟩ | ⟨code, rfl⟩ := h
  · rw [hpos] at hlast
    obtain ⟨-, hsingle⟩ | ⟨qs', rfl, hk⟩ := List.cons_eq_append_iff.mp hlast
    · cases hsingle
      rw [hp] at hq
      cases hq
    · refine .running (rs ++ qs') q (htbusy.trans hbusy) (htcard ▸ hcard) ?_ ?_ hq
      · rw [ht, List.append_assoc]
        exact congrArg _ hk
      · simp only [List.all_cons, Bool.and_eq_true] at hqs
        rw [List.all_append, hrs, hqs.2]
        rfl
  · exact .raiseOpError code hbusy

theorem framePoints_not_closing (c : Config) (idx : Index) (arg : Long) :
    (framePoints c idx arg).all (!·.closing) = true := by
  have hframe : (Point.op (frameOf c idx arg)).closing = false := by
    unfold frameOf
    repeat' split
    all_goals rfl
  rw [framePoints, List.all_cons, hframe]
  rfl

theorem commandPoints_not_closing (c : Config) (idx : Index) (arg : Long) :
    (commandPoints c idx arg).all (!·.closing) = true := by
  unfold commandPoints
  split
  · exact framePoints_not_closing c idx arg
  · rfl

theorem exec_opens {s t : State} {i : Instr} (hi : calledBySeq s.cfg i = true) (hp : (Point.op i).closing = false)
    (h : exec i s = .next t) : Opens s t := by
  cases i with
  | complete => cases hp
  | arm n => cases h.symm.trans (exec_arm s hi); exact .push [] rfl rfl
  | sendCommand idx arg app =>
    cases h
    cases app with
    | true => exact .push _ rfl rfl
    | false => exact .push _ rfl (commandPoints_not_closing s.cfg idx arg)
  | sectorArg sector => cases h; exact .ite (.ite (.raised _ rfl) (.push [] rfl rfl)) (.push [] rfl rfl)
  | stopTransmission arg =>
    cases h; exact .push (frameExchanges s.cfg s.cfg.idxStop arg ++ [fillerExchange]) rfl rfl
  | exchange | expired | setSpeed | classify => cases h; exact .push [] rfl rfl
  | cmdFrame | goIdle | ifCond | readSingleBlock | writeSingleBlock | appPrefix | dataTokenWrite | stopToken | select
  | deselect | waitReady | selectAndWait | release | framer | receiveBlock | sendBlock | initDummyBlock
  | powerUpWait => cases h; exact .push _ rfl rfl
  | _ => cases hi

theorem runPoint_opens {s t : State} {p : Point} (hn : p.native s.cfg = true) (hp : p.closing = false)
    (h : runPoint p s = .next t) : Opens s t := by
  cases p with
  | op i => exact exec_opens hn hp h
  | word => cases hn
  | readyExpired | responsePoll | tokenExpired | dummyNext | powerTest =>
    cases h; exact .ite (.push [] rfl rfl) (.push _ rfl rfl)
  | selected => cases h; exact .ite (.push [] rfl rfl) (.push [.op .deselect, .giveOk false] rfl rfl)
  | tokenPoll => cases h; exact .ite (.push _ rfl rfl) (.push [] rfl rfl)
  | prefixed idx arg =>
    cases h; exact .ite (.push [] rfl rfl) (.push _ rfl (commandPoints_not_closing s.cfg idx arg))
  | commandSelected idx arg =>
    cases h; exact .ite (.push _ rfl (framePoints_not_closing s.cfg idx arg)) (.push [] rfl rfl)
  | blockReady token =>
    cases h
    refine .ite (.push (tokenPoints s.cfg token) rfl ?_) (.push [] rfl rfl)
    unfold tokenPoints
    repeat' split
    all_goals rfl
  | payloadIn | payloadOut =>
    cases h
    refine .push _ rfl ?_
    split <;> rfl
  | storeByte =>
    simp only [runPoint, pointStoreByte] at h
    split at h <;> cases h
    exact .push [.payloadIn] rfl rfl
  | setCS | giveOk | latchR1 | blockReceived | dataResponse | tokenSent => cases h; exact .push [] rfl rfl
  | readyPoll | pollStart | payloadStart | payloadNext | dummyStart => cases h; exact .push _ rfl rfl
  | _ => cases hp

/-- A test before the last point. -/
theorem pointStep_test_opens {s t : State} {p : Point} {k : List Point} (hpos : s.seqpos = p :: k)
    (hp : p.closing = false) (htest : (testAt p s).isSome = true) (h : pointStep s = .next t) :
    Opens { s with seqpos := k } t := by
  cases p with
  | readyPoll =>
    by_cases hb : s.ret.byte = 0xFF#8
    · cases h.symm.trans (pointStep_readyPoll_ready hpos hb)
      exact .push [] rfl rfl
    · cases h.symm.trans (pointStep_readyPoll_other hpos hb)
      exact .push [.op .expired, .readyExpired] rfl rfl
  | responsePoll =>
    cases hb : s.ret.byte.getLsbD 7 with
    | false =>
      cases h.symm.trans (pointStep_responsePoll_valid hpos hb)
      exact .push [] rfl rfl
    | true =>
      cases h.symm.trans (pointStep_responsePoll_other hpos hb)
      split
      · exact .push [] rfl rfl
      · exact .push [fillerExchange, .responsePoll] rfl rfl
  | tokenPoll =>
    by_cases hstart : s.ret.byte = 0xFE#8
    · cases h.symm.trans (pointStep_tokenPoll_start hpos hstart)
      exact .push [.payloadIn] rfl rfl
    · by_cases hfill : s.ret.byte = 0xFF#8
      · cases h.symm.trans (pointStep_tokenPoll_filler hpos hfill)
        exact .push [.op .expired, .tokenExpired] rfl rfl
      · cases h.symm.trans (pointStep_tokenPoll_other hpos hfill hstart)
        exact .push [] rfl rfl
  | dataResponse =>
    cases h.symm.trans (pointStep_dataResponse hpos)
    exact .push [] rfl rfl
  | goIdleTest | readCommand | writeCommand | finishVerdict => cases hp
  | _ => cases htest

/-! ## The last point -/

/-- The last point is replaced by another last one, and `complete` leaves nothing. -/
theorem pointStep_last_underway {s t : State} {p : Point} (hpos : s.seqpos = [p]) (hp : p.closing = true)
    (hbusy : s.busy = true) (hcard : p.standsIn s.cardState) (h : pointStep s = .next t) : t.Underway := by
  have hpoint (htest : testAt p s = none) : runPoint p { s with seqpos := [] } = .next t :=
    (pointStep_point hpos htest).symm.trans h
  cases p with
  | op i =>
    cases i with
    | complete res => cases hpoint rfl; exact .idle rfl rfl
    | _ => cases hp
  | firstAttempt =>
    cases hpoint rfl
    exact .running [.op .initDummyBlock, .op (.framer s.cfg.idxGoIdle s.cfg.goIdleArg false)] .goIdleTest hbusy hcard
  | goIdleTest =>
    by_cases hb : s.ret.byte = 0x01#8
    · cases h.symm.trans (pointStep_goIdleTest_idle hpos hb)
      exact .running [] (.op (.complete 0)) hbusy trivial
    · cases h.symm.trans (pointStep_goIdleTest_other hpos hb)
      exact .ite (fun _ => .running [.op .release] (.op (.complete _)) hbusy trivial) fun _ =>
        .running [.op .initDummyBlock, .op (.framer s.cfg.idxGoIdle s.cfg.goIdleArg false)] .goIdleTest hbusy hcard
  | readArg => cases hpoint rfl; exact .running [.op (.framer _ _ _)] .readCommand hbusy trivial
  | writeArg => cases hpoint rfl; exact .running [.op (.framer _ _ _)] .writeCommand hbusy trivial
  | readCommand =>
    by_cases hb : s.ret.byte = 0x00#8
    · cases h.symm.trans (pointStep_readCommand_ready hpos hb)
      exact .running [.op (.receiveBlock s.cfg.tRead)] .readReceived hbusy trivial
    · cases h.symm.trans (pointStep_readCommand_other hpos hb)
      exact .running [.op .release, .op (.classify s.ret.byte)] .raiseCode hbusy trivial
  | writeCommand =>
    by_cases hb : s.ret.byte = 0x00#8
    · cases h.symm.trans (pointStep_writeCommand_ready hpos hb)
      exact .running [.op (.sendBlock s.cfg.dataTokenWrite)] .writeSent hbusy trivial
    · cases h.symm.trans (pointStep_writeCommand_other hpos hb)
      exact .running [.op .release, .op (.classify s.ret.byte)] .raiseCode hbusy trivial
  | readReceived => cases hpoint rfl; exact .running [.op .release] (.readDone _ _) hbusy trivial
  | writeSent => cases hpoint rfl; exact .running [.op .release] (.writeDone _ _) hbusy trivial
  | readDone ok tok =>
    cases hpoint rfl
    exact .ite (fun _ => .running [] (.op (.complete 0)) hbusy trivial) fun _ => .raiseOpError _ hbusy
  | writeDone ok resp =>
    cases hpoint rfl
    exact .ite (fun _ => .running [] (.op (.complete 0)) hbusy trivial) fun _ =>
      .ite (fun _ => .raiseOpError _ hbusy) fun _ => .raiseOpError _ hbusy
  | raiseCode => cases hpoint rfl; exact .raiseOpError _ hbusy
  | respond => cases hpoint rfl; exact .running [] (.op (.complete 0)) hbusy trivial
  | finishVerdict =>
    by_cases hb : s.lastR1 = 0x00#8
    · cases h.symm.trans (pointStep_finishVerdict_ready hpos hb)
      exact .running [.op (.setSpeed .fast), .op .release] (.op (.complete 0)) hbusy trivial
    · cases h.symm.trans (pointStep_finishVerdict_other hpos hb)
      exact .running [.op .release] (.op (.complete _)) hbusy trivial
  | _ => cases hp

/-! ## Every point -/

theorem pointStep_underway {s t : State} (hs : s.Underway) (hn : s.PointsNative) (h : pointStep s = .next t) :
    t.Underway := by
  cases hpos : s.seqpos with
  | nil => rw [pointStep_idle hpos] at h; cases h; exact hs
  | cons p k =>
    cases hp : p.closing with
    | true =>
      have hnil := hs.operationOpen.closing_last hpos hp
      subst hnil
      obtain ⟨-, hidle⟩ | ⟨qs, q, hbusy, hcard, hlast, -, -⟩ := hs
      · rw [hidle] at hpos; cases hpos
      · obtain ⟨rfl, rfl⟩ : qs = [] ∧ q = p := by
          simpa [hlast, List.append_eq_singleton_iff] using hpos
        exact pointStep_last_underway hpos hp hbusy hcard h
    | false =>
      refine Opens.underway hs hpos hp ?_
      cases htest : testAt p s with
      | none =>
        exact runPoint_opens (hn p (hpos ▸ List.mem_cons_self)) hp ((pointStep_point hpos htest).symm.trans h)
      | some test => exact pointStep_test_opens hpos hp (by simp [htest]) h

end Sys2Proof.Machine

/-! # Every step keeps the invariant of the block

What holds at every point (`State.Sound`) is kept by the first act of every move: the registers by what it writes, BUF by where it
stores, the pending points by how SEQ moves. A step is such an act and then points of SEQ's control flow, which ends settled. -/

namespace Sys2Proof.Machine

/-! ## What holds of the registers at every point -/

/-- ERRCODE is faithful to CARDSTATE when no code of the Error state is 0. -/
theorem codeFaithful_iff (s : State) : s.CodeFaithful ↔ s.cardState ≠ .error 0 := by
  unfold State.CodeFaithful State.errcode
  cases s.cardState with
  | error code => simp [CardState.code]
  | _ => simp [CardState.code]

/-- The codes of 60_exceptions.md R281 have a class, which is not 0. -/
theorem errorCode_ne_zero {cls : Byte} (detail : Byte) (hcls : cls ≠ 0) : cls ++ detail ≠ 0#16 := by
  intro h
  have hclass := congrArg (BitVec.extractLsb' 8 8) h
  rw [BitVec.extractLsb'_append_eq_left] at hclass
  exact hcls hclass

theorem Writes.codeFaithful {s : State} {e : Event} {r : Registers} (h : Writes s e r) (hs : s.cardState ≠ .error 0) :
    r.cardState ≠ .error 0 := by
  cases h with
  | toUninitialized | wentIdle | becameReady => exact nofun
  | lastAttempt | negotiationFailed | readyRefused =>
    exact fun h => errorCode_ne_zero _ (by decide) (CardState.error.inj h)
  | _ => exact hs

theorem Writes.tcountFits {s : State} {e : Event} {r : Registers} (h : Writes s e r) (hs : s.TcountFits) :
    r.tcount ≤ s.cfg.maxDuration := by
  cases h with
  | tick => exact Nat.le_trans (Nat.sub_le _ _) hs
  | arm _ hn => exact (durationFits_iff _ _).mp hn
  | _ => exact hs

/-- RESP takes a byte (10_state.md R40). -/
theorem byte_reserved_zero (b : Byte) : b.setWidth 16 &&& ~~~(0x00FF : Half) = 0 := by
  revert b; decide

theorem Writes.reservedZero {s : State} {e : Event} {r : Registers} (h : Writes s e r) (hs : s.ReservedZero) :
    State.ReservedZero { s with win := r.win } := by
  cases h with
  | operand _ _ hreserved => exact hreserved hs
  | respond =>
    obtain ⟨hcmd, hxdata, hfin, -⟩ := hs
    exact ⟨hcmd, hxdata, hfin, byte_reserved_zero _⟩
  | _ => exact hs

/-- Every store to BUF is at one of its addresses. -/
theorem firstAct_bufCanonical {s t : State} {e : Event} (hs : s.BufCanonical) (hstore : s.StoreInRange)
    (h : firstAct e s = .next t) : t.BufCanonical := by
  have hsame (ht : t.buf = s.buf) : t.BufCanonical := (congrArg Memory.wf ht).trans hs
  have hwrite {a : Nat} {v : Byte} (ha : a < 512) (ht : t.buf = (s.bufWrite a v).buf) : t.BufCanonical :=
    (congrArg Memory.wf ht).trans (Memory.wf_put s.buf v ha hs)
  cases e with
  | seq =>
    obtain ht | ⟨hpoint, ht⟩ := pointStep_buf h
    · exact hsame ht
    · obtain ⟨-, -, k, hpos⟩ := eventPoint?_eq_some hpoint
      exact hwrite ((hstore.behind hpos rfl).2 rfl) ht
  | tick => exact hsame (exec_buf (i := .tick) h)
  | statusRead => exact hsame (exec_buf (i := .statusRead) h)
  | hostRead addr => exact hsame (hostReadAt_buf h)
  | hostWrite addr v =>
    obtain ht | ⟨-, a, rfl, ht⟩ := hostWrite_buf h
    · exact hsame ht
    · refine hwrite (Nat.lt_of_not_le fun ha => ?_) ht
      have hfault := hostWrite_outside (s := s) v (addr := s.cfg.base + 0x200 + a) (.inr (by omega))
      cases hfault.symm.trans h

/-! ## The operations that a CTRL write issues (45_host_operations.md R240) -/

theorem State.hostOp_underway {s : State} {body : State → State} (hbusy : s.busy = false)
    (h : (body s.issue).Underway) : (s.hostOp body).Underway := by
  rwa [State.hostOp_idle _ hbusy]

theorem State.ifReady_underway {s : State} {ps : List Point} (hbusy : s.busy = true) (h : (s.startAt ps).Underway) :
    (s.ifReady ps).Underway :=
  .ite (fun _ => h) fun _ => .raiseOpError _ hbusy

theorem State.ifIdle_underway {s : State} {body : State → State} (hbusy : s.busy = true)
    (h : s.cardState = .idle → (body s).Underway) : (s.ifIdle body).Underway :=
  .ite h fun _ => .raiseOpError _ hbusy

theorem exec_decodeCtrl_underway {s t : State} {v : Half} (hbusy : s.busy = false)
    (h : exec (decodeCtrl v) s = .next t) : t.Underway := by
  unfold decodeCtrl at h
  split at h <;> cases h <;> refine State.hostOp_underway hbusy ?_
  case h_1 => exact .raiseOpError _ rfl
  case h_2 => exact .running [.op (.setSpeed .slow), .op .powerUpWait] .firstAttempt rfl rfl
  case h_3 => exact State.ifReady_underway rfl (.running [.op (.sectorArg _)] .readArg rfl trivial)
  case h_4 => exact State.ifReady_underway rfl (.running [.op (.sectorArg _)] .writeArg rfl trivial)
  case h_5 => exact State.ifIdle_underway rfl fun _ => .running [.op (.framer _ _ _)] .respond rfl trivial
  case h_6 => exact State.ifIdle_underway rfl fun _ => .running [.op (.exchange _)] .respond rfl trivial
  case h_7 =>
    exact State.ifIdle_underway rfl fun hcard => .ite (fun _ => .running [] .finishVerdict rfl hcard) fun _ =>
      .running [.op .release] (.op (.complete _)) rfl trivial
  case h_8 => exact .raiseOpError _ rfl

/-! ## The moves that SEQ's control flow does not follow -/

/-- SEQ stands where it stood, in the same operation. -/
structure StandsStill (s t : State) : Prop where
  seqpos : t.seqpos = s.seqpos := by rfl
  bidx : t.bidx = s.bidx := by rfl
  busy : t.busy = s.busy := by rfl
  cardState : t.cardState = s.cardState := by rfl

theorem StandsStill.ite {s t u : State} {b : Prop} [Decidable b] (ht : StandsStill s t) (hu : StandsStill s u) :
    StandsStill s (if b then t else u) := by
  split
  · exact ht
  · exact hu

theorem StandsStill.underway {s t : State} (h : StandsStill s t) (hs : s.Underway) : t.Underway := by
  obtain ⟨hpos, -, hbusy, hcard⟩ := h
  obtain ⟨hidle, hnil⟩ | ⟨qs, q, hrun, hstands, hlast, hqs, hq⟩ := hs
  · exact .idle (hbusy.trans hidle) (hpos.trans hnil)
  · exact .running qs q (hbusy.trans hrun) (hcard ▸ hstands) (hpos.trans hlast) hqs hq

theorem StandsStill.flows {s t : State} (h : StandsStill s t) (hcfg : t.cfg = s.cfg) (hs : s.Flows) : t.Flows := by
  refine ⟨hcfg ▸ hs.cfg, fun p hp => hcfg ▸ hs.pointsNative p (h.seqpos ▸ hp), ?_⟩
  have hstore := hs.storeInRange
  unfold State.StoreInRange at hstore ⊢
  rwa [h.seqpos, h.bidx]

theorem StandsStill.settled {s t : State} (h : StandsStill s t) : t.settled = s.settled := by
  simp only [State.settled, h.seqpos]

theorem regWrite_standsStill (s : State) (off : Nat) (v : Half) : StandsStill s (s.regWrite off v) := by
  unfold State.regWrite
  split
  case h_1 => exact .ite {} {}
  case h_9 => exact {}
  all_goals exact .ite {} {}

theorem firstAct_standsStill {s t : State} {e : Event} (hstill : movesSeq e s = false) (h : firstAct e s = .next t) :
    StandsStill s t := by
  cases e with
  | seq => cases hstill
  | tick | statusRead => cases h; exact {}
  | hostRead addr =>
    simp only [firstAct, hostReadAt] at h
    split at h <;> cases h
    exact .ite {} (.ite {} {})
  | hostWrite addr v =>
    by_cases haddr : addr = s.cfg.base + ctrlOffset
    · subst haddr
      have hbusy : s.busy = true := by simpa [movesSeq] using hstill
      cases h.symm.trans ((hostWrite_ctrl s v).trans (exec_decodeCtrl_busy v hbusy))
      exact {}
    · simp only [firstAct, hostWrite, if_neg haddr, hostWriteAt] at h
      split at h <;> cases h
      exact .ite (regWrite_standsStill s _ v) (.ite {} {})

/-! ## The first act of a move -/

theorem State.Sound.flows {s : State} (hs : s.Sound) (hcfg : s.cfg.wellFormed = true) : s.Flows :=
  ⟨hcfg, hs.pointsNative, hs.storeInRange⟩

theorem State.Flows.pointStep {s t : State} (hs : s.Flows) (h : pointStep s = .next t) : t.Flows := by
  cases hpos : s.seqpos with
  | nil => rw [pointStep_idle hpos] at h; cases h; exact hs
  | cons p k =>
    cases hp : p.isPrimitive with
    | true =>
      obtain ⟨u, hu, hflows, -⟩ := hs.primitive hpos hp
      cases h.symm.trans hu
      exact hflows
    | false =>
      obtain ⟨u, hu, hflows, -⟩ := hs.pass hpos hp
      cases h.symm.trans hu
      exact hflows

/-- The first act leaves SEQ in an operation, or at IDLE, and with what its control flow needs. -/
theorem firstAct_underway {s t : State} {e : Event} (hs : s.Sound) (hcfg : s.cfg.wellFormed = true)
    (h : firstAct e s = .next t) : t.Underway ∧ t.Flows := by
  cases hmoves : movesSeq e s with
  | false =>
    have hstill := firstAct_standsStill hmoves h
    exact ⟨hstill.underway hs.underway, hstill.flows (firstAct_writes h).cfg (hs.flows hcfg)⟩
  | true =>
    cases e with
    | seq => exact ⟨pointStep_underway hs.underway hs.pointsNative h, (hs.flows hcfg).pointStep h⟩
    | hostWrite addr v =>
      obtain ⟨rfl, hbusy⟩ := movesSeq_hostWrite.mp hmoves
      have hexec : exec (decodeCtrl v) s = .next t := (hostWrite_ctrl s v).symm.trans h
      obtain ⟨u, hu, hflows⟩ := exec_decodeCtrl_flows v hcfg hbusy
      cases hexec.symm.trans hu
      exact ⟨exec_decodeCtrl_underway hbusy hexec, hflows⟩
    | _ => cases hmoves

/-- What holds at every point holds after the first act of every move. -/
theorem State.Sound.firstAct {s t : State} {e : Event} (hs : s.Sound) (hcfg : s.cfg.wellFormed = true)
    (h : firstAct e s = .next t) : t.Sound where
  bufCanonical := firstAct_bufCanonical hs.bufCanonical hs.storeInRange h
  tcountFits := by
    have hw : Writes s e t.registers := firstAct_writes h
    have hcfg' : t.cfg = s.cfg := hw.cfg
    rw [State.TcountFits, hcfg']
    exact hw.tcountFits hs.tcountFits
  codeFaithful :=
    (codeFaithful_iff t).mpr ((firstAct_writes h).codeFaithful ((codeFaithful_iff s).mp hs.codeFaithful))
  reservedZero := (firstAct_writes h).reservedZero hs.reservedZero
  operationOpen := (firstAct_underway hs hcfg h).1.operationOpen
  storeInRange := (firstAct_underway hs hcfg h).2.storeInRange
  pointsNative := (firstAct_underway hs hcfg h).2.pointsNative
  phaseFits := (firstAct_underway hs hcfg h).1.phaseFits

/-! ## Runs of points, and a step of the machine -/

theorem State.Sound.pointRun {n : Nat} {s t : State} (hs : s.Sound) (hcfg : s.cfg.wellFormed = true)
    (h : pointRun n s = .next t) : t.Sound := by
  induction n generalizing s with
  | zero => cases h; exact hs
  | succ n ih =>
    obtain ⟨u, hu, hrun⟩ := andThen_eq_next.mp h
    have hcfg' : u.cfg = s.cfg := (pointStep_writes hu).cfg
    exact ih (hs.firstAct (e := .seq) hcfg hu) (hcfg' ▸ hcfg) hrun

/-- SEQ's control flow ends where the invariant holds. -/
theorem State.Sound.settle {s t : State} (hs : s.Sound) (hcfg : s.cfg.wellFormed = true) (h : s.settle = .next t) :
    t.Inv := by
  obtain ⟨n, hrun⟩ := settleFor_pointRun h
  obtain ⟨u, hu, hset, -⟩ := settle_settles hcfg hs.pointsNative hs.storeInRange
  cases h.symm.trans hu
  exact ⟨hs.pointRun hcfg hrun, hset⟩

theorem State.Inv.runEvent {s t : State} {e : Event} (hs : s.Inv) (hcfg : s.cfg.wellFormed = true)
    (h : runEvent e s = .next t) : t.Inv := by
  cases hmoves : movesSeq e s with
  | true =>
    rw [runEvent_moves hmoves] at h
    obtain ⟨u, hu, hsettle⟩ := andThen_eq_next.mp h
    have hcfg' : u.cfg = s.cfg := (firstAct_writes hu).cfg
    exact (hs.sound.firstAct hcfg hu).settle (hcfg' ▸ hcfg) hsettle
  | false =>
    rw [runEvent_still hmoves] at h
    exact ⟨hs.sound.firstAct hcfg h, (firstAct_standsStill hmoves h).settled.trans hs.settled⟩

/-- Settles O10: the first act of a move keeps what holds at every point, by what it writes and by how the pending points change,
and so do the points of SEQ's control flow, which ends settled. -/
theorem stepKeepsInvariant : Obligations.StepKeepsInvariant := by
  intro s t hs h
  cases hcfg : s.cfg.wellFormed with
  | false => cases (step_ill_formed hcfg).symm.trans h
  | true => exact hs.takeEvent.runEvent hcfg ((step_eq hcfg).symm.trans h)

/-- Settles O9: at IDLE with nothing written. -/
theorem invariantHoldsAtReset : Obligations.InvariantHoldsAtReset where
  sound :=
    { bufCanonical := State.reset_buf_wf
      tcountFits := Nat.zero_le _
      codeFaithful := (codeFaithful_iff _).mpr nofun
      reservedZero := ⟨rfl, rfl, rfl, rfl⟩
      operationOpen := (State.Underway.idle rfl rfl).operationOpen
      storeInRange := storeInRange_of_not_mem nofun
      pointsNative := nofun
      phaseFits := (State.Underway.idle rfl rfl).phaseFits }
  settled := rfl

end Sys2Proof.Machine

/-! # Reset, the operation of a step, and the register window as moves of the machine (10_state.md) -/

namespace Sys2Proof.Machine

/-! ## Reset (10_state.md R46) -/

/-- Settles O6, by reading the reset state. -/
theorem resetValues : Obligations.ResetValues := by
  refine ⟨rfl, rfl, rfl, rfl, rfl, rfl, rfl, rfl, rfl, rfl, rfl, ?_, rfl, fun _ => rfl, rfl⟩
  decide

/-! ## The operation that a step runs (10_state.md R30) -/

/-- A step of SEQ runs what stands at SEQPOS, and SEQPOS moves on. -/
theorem step_seq {s : State} {evs : List Event} (hcfg : s.cfg.wellFormed = true) (h : s.env.inbox = .seq :: evs) :
    step s = andThen (pointStep (s.withInbox evs)) State.settle := step_inbox hcfg h

/-- A placed word that a row of the table matches runs as that row. -/
theorem pointStep_word {s : State} {nbits w : Nat} {k : List Point} {i : Instr} (h : s.seqpos = .word nbits w :: k)
    (hi : decodeTableWord nbits w = some i) : pointStep s = exec i { s with seqpos := k } := by
  rw [pointStep_point h rfl]
  unfold decodeTableWord at hi
  split at hi
  · next j hj => cases hi; simp only [runPoint, hj]
  · cases hi

/-- A CTRL write runs the operation its value decodes to. -/
theorem runEvent_ctrlWrite (s : State) (v : Half) :
    runEvent (.hostWrite (s.cfg.base + ctrlOffset) v) s =
      if s.busy then exec (decodeCtrl v) s else andThen (exec (decodeCtrl v) s) State.settle := by
  have hfirst : firstAct (.hostWrite (s.cfg.base + ctrlOffset) v) s = exec (decodeCtrl v) s := hostWrite_ctrl s v
  cases hbusy : s.busy with
  | true => rw [runEvent_still (by simp [movesSeq, hbusy]), hfirst]; rfl
  | false => rw [runEvent_moves (movesSeq_hostWrite.mpr ⟨rfl, hbusy⟩), hfirst]; rfl

/-- The operation of a table word that is a CTRL value. -/
theorem decodeTableWord_ctrl {nbits w : Nat} {i : Instr} (hctrl : isCtrlWord nbits w = true)
    (hi : decodeTableWord nbits w = some i) : decodeCtrl (BitVec.ofNat 16 w) = i := by
  have hbytes : BitVec.ofNat 8 (w / 256) ++ BitVec.ofNat 8 w = BitVec.ofNat 16 w := by
    apply BitVec.eq_of_toNat_eq
    simp only [BitVec.toNat_append, BitVec.toNat_ofNat]
    rw [← Nat.shiftLeft_add_eq_or_of_lt (Nat.mod_lt _ (by decide)), Nat.shiftLeft_eq]
    omega
  rw [← hbytes]
  simpa [decodeTableWord, decodeWord, hctrl, decode] using hi

theorem withFetchWord_ctrl (s : State) {nbits w : Nat} (h : isCtrlWord nbits w = true) :
    s.withFetchWord nbits w =
      s.withInbox (.hostWrite (s.cfg.base + ctrlOffset) (BitVec.ofNat 16 w) :: s.env.inbox) :=
  if_pos h

theorem withFetchWord_other (s : State) {nbits w : Nat} (h : isCtrlWord nbits w = false) :
    s.withFetchWord nbits w = { s.withInbox (.seq :: s.env.inbox) with seqpos := .word nbits w :: s.seqpos } :=
  if_neg (Bool.eq_false_iff.mp h)

/-- A placed word is what the next step runs, whatever the inbox and SEQPOS held (log 16). -/
theorem step_withFetchWord {s : State} {nbits w : Nat} {i : Instr} (hcfg : s.cfg.wellFormed = true)
    (hi : decodeTableWord nbits w = some i) :
    step (s.withFetchWord nbits w) =
      if isCtrlWord nbits w && s.busy then exec i s else andThen (exec i s) State.settle := by
  cases hctrl : isCtrlWord nbits w with
  | true =>
    rw [withFetchWord_ctrl s hctrl, ← decodeTableWord_ctrl hctrl hi]
    let ctrl : Event := .hostWrite (s.cfg.base + ctrlOffset) (BitVec.ofNat 16 w)
    exact (step_inbox (s := s.withInbox (ctrl :: s.env.inbox)) hcfg rfl).trans (runEvent_ctrlWrite s _)
  | false =>
    let placed : State := { s with seqpos := .word nbits w :: s.seqpos }
    have hpoint : pointStep placed = exec i s := pointStep_word rfl hi
    rw [withFetchWord_other s hctrl]
    exact (step_seq (s := placed.withInbox (.seq :: s.env.inbox)) hcfg rfl).trans
      (congrArg (andThen · State.settle) hpoint)

/-- Settles O7, move by move. -/
theorem stepRunsDecodedOperation : Obligations.StepRunsDecodedOperation := by
  intro s evs hcfg rest
  refine ⟨fun hseq => ⟨fun i k hpos => ?_, fun nbits w k i hpos hi => ?_, fun p k port b i hpos htest hd => ?_,
    fun hpos => ?_⟩, fun v hwrite => ?_, step_inbox hcfg, step_inbox hcfg, fun _ _ _ => step_withFetchWord hcfg⟩
  · rw [step_seq hcfg hseq, pointStep_op (s := s.withInbox evs) hpos]; rfl
  · rw [step_seq hcfg hseq, pointStep_word (s := s.withInbox evs) hpos hi]; rfl
  · rw [step_seq hcfg hseq, pointStep_test_ok (s := s.withInbox evs) hpos htest hd]; rfl
  · rw [step_seq hcfg hseq, pointStep_idle (s := s.withInbox evs) hpos]
    exact settle_settled (by simp [State.settled, State.withInbox, hpos])
  · rw [step_inbox hcfg hwrite]; exact runEvent_ctrlWrite rest v

/-! ## The register window (10_state.md R33 to R42; 20_memory.md R67) -/

/-- A host write of a register is followed by no control flow. -/
theorem step_hostWrite_register {s : State} {off : Nat} {v : Half} {evs : List Event} (hcfg : s.cfg.wellFormed = true)
    (hctrl : off ≠ 0) (hoff : off < 0x200) (h : s.env.inbox = .hostWrite (s.cfg.base + off) v :: evs) :
    step s = .next ((s.withInbox evs).regWrite off v) := by
  have hstill : movesSeq (.hostWrite (s.cfg.base + off) v) (s.withInbox evs) = false := by
    simp [movesSeq, ctrlOffset, State.withInbox, hctrl]
  have hwrite := hostWrite_inside (s := s.withInbox evs) v hctrl (show off < 0x400 by omega)
  rw [if_pos (show off < bufOffset from hoff)] at hwrite
  rw [step_inbox hcfg h]
  exact (runEvent_still hstill).trans hwrite

theorem hostReadAt_register {s : State} {off : Nat} (hoff : off < 0x200) :
    hostReadAt (s.cfg.base + off) s = .next { s with hostData := [s.regRead off] } := by
  have hwindow : windowOffset? s.cfg (s.cfg.base + off) = some off :=
    windowOffset?_eq_some.mpr ⟨rfl, show off < 0x400 by omega⟩
  simp only [hostReadAt, hwindow, if_pos (show off < bufOffset from hoff)]

theorem step_hostRead_register {s : State} {off : Nat} {evs : List Event} (hcfg : s.cfg.wellFormed = true)
    (hoff : off < 0x200) (h : s.env.inbox = .hostRead (s.cfg.base + off) :: evs) :
    step s = .next { s.withInbox evs with hostData := [s.regRead off] } := by
  rw [step_inbox hcfg h]
  exact hostReadAt_register (s := s.withInbox evs) hoff

/-- The operand registers, each with the bits that a write stores (10_state.md R36 to R39). -/
def operandMasks : List (Nat × Half) :=
  [(0x004, 0xFFFF), (0x006, 0xFFFF), (0x008, 0x007F), (0x00A, 0xFFFF), (0x00C, 0xFFFF), (0x00E, 0x00FF), (0x010, 0xFF03)]

theorem and_ones (v : Half) : v &&& 0xFFFF#16 = v := BitVec.and_allOnes

/-- A write of an operand register while BUSY = 0 is in the window alone, where it is read back without its reserved bits, and
nothing else reads otherwise. -/
theorem regWrite_operand {s : State} {off : Nat} {mask : Half} (v : Half) (h : (off, mask) ∈ operandMasks)
    (hbusy : s.busy = false) :
    ∃ w, s.regWrite off v = { s with win := w } ∧ State.regRead { s with win := w } off = v &&& mask ∧
      ∀ a, a ≠ off → State.regRead { s with win := w } a = s.regRead a := by
  have hidle (w : Window) : s.writeOperand w = { s with win := w } := by simp [State.writeOperand, hbusy]
  simp only [operandMasks, List.mem_cons, Prod.mk.injEq, List.not_mem_nil, or_false] at h
  obtain ⟨rfl, rfl⟩ | ⟨rfl, rfl⟩ | ⟨rfl, rfl⟩ | ⟨rfl, rfl⟩ | ⟨rfl, rfl⟩ | ⟨rfl, rfl⟩ | ⟨rfl, rfl⟩ := h
  all_goals
    rw [State.regWrite, hidle]
    refine ⟨_, rfl, by simp [State.regRead, cmdMask, xdataMask, finMask, and_ones], fun a ha => ?_⟩
    unfold State.regRead
    split <;> trivial

/-- A write to a read-only register, an odd offset or a reserved offset is ignored (10_state.md R42; 20_memory.md R67). -/
theorem regWrite_ignored (s : State) {off : Nat} (v : Half)
    (h : off ∈ [0x012, 0x014, 0x016] ∨ off % 2 = 1 ∨ 0x018 ≤ off) : s.regWrite off v = s := by
  unfold State.regWrite
  split
  case h_9 => rfl
  all_goals simp at h

/-- Odd offsets and reserved offsets read 0 (10_state.md R42; 20_memory.md R67). -/
theorem regRead_reserved (s : State) {off : Nat} (h : off % 2 = 1 ∨ 0x018 ≤ off) : s.regRead off = 0 := by
  unfold State.regRead
  split
  case h_1 | h_13 => rfl
  all_goals simp at h

/-- OVR is cleared by writing 1 to its bit of STATUS (10_state.md R32). -/
theorem regWrite_status (s : State) (v : Half) :
    s.regWrite 0x002 v = { s with ovr := s.ovr && !v.getLsbD 1 } := by
  rw [State.regWrite]
  cases v.getLsbD 1 with
  | true => simp
  | false => simp

/-- Settles O57: each access is one move of HOST, and the window answers it register by register. -/
theorem registerWindow : Obligations.RegisterWindow := by
  intro s v evs hcfg rest
  refine ⟨fun hbusy e he hinbox => ?_, fun off hoff hignored hinbox => ?_, fun hinbox => ?_,
    fun off hoff hinbox => step_hostRead_register hcfg hoff hinbox, rfl, rfl, rfl, rfl, fun off => regRead_reserved s⟩
  · obtain ⟨off, mask⟩ := e
    have hrange : ∀ p ∈ operandMasks, p.1 ≠ 0 ∧ p.1 < 0x200 := by decide
    obtain ⟨hctrl, hoff⟩ := hrange _ he
    let u := s.withInbox (.hostRead (s.cfg.base + off) :: evs)
    obtain ⟨w, hw, hback, hother⟩ := regWrite_operand (s := u) v he hbusy
    have hwrite : step s = .next { u with win := w } := hw ▸ step_hostWrite_register hcfg hctrl hoff hinbox
    have hread := step_hostRead_register (s := { u with win := w }) hcfg hoff rfl
    rw [hback] at hread
    exact ⟨_, (core_run_succ hwrite).trans (core_run_succ hread), rfl, hother⟩
  · have hctrl : off ≠ 0 := by
      rintro rfl
      simp at hignored
    rw [step_hostWrite_register hcfg hctrl hoff hinbox, regWrite_ignored _ v hignored]
    rfl
  · rw [step_hostWrite_register hcfg (by decide) (by decide) hinbox, regWrite_status]
    rfl

end Sys2Proof.Machine
